-- ==== Sys2Proof/Word.lean ====
section
/-!
DEFINITION. The port's word (11: "All words on the port are 16 bits") and the numbers of things the part holds.
-/

namespace Sys2Proof

/-- A word of the port, 16 bits (11). -/
abbrev Word := BitVec 16

/-- A word address of exchange memory, 0x0000 to 0x3FFF (00 section 0.5). -/
abbrev Addr := BitVec 14

/-- A raw code of the level board, 12 bits (R49). -/
abbrev RawCode := BitVec 12

/-- The index of an order entry, 0 to 31. -/
abbrev Entry := Fin 32

/-- A screen number, S0 to S5. -/
abbrev ScreenNo := Fin 6

/-- A pump number, P0 to P5. -/
abbrev PumpNo := Fin 6

/-- A timer number, T0 to T15. -/
abbrev TimerNo := Fin 16

end Sys2Proof
end

