-- ==== Sys2Proof/Syntax.lean ====
section
/-!
DEFINITION. The commands of the part: one constructor per row of spec/opcode_table.json, in the table's order.
A take (DESCRIBE to SET_CHOKE, UNKNOWN_KIND) has no operand, since its arguments are words of the entry at the head of
the intake queue (R10). The delivery of an event that one unit has sent to another has none either but, where several
receivers are alike, the receiver's number: what the event carries was fixed when it was sent and stands in State.
-/

namespace Sys2Proof

/-- The commands, one constructor per row of the table. -/
inductive Instr where
  /-- Power is applied, the straps reading as given (R20, R21). -/
  | powerApplication (screenStrap pumpStrap : BitVec 3)
  /-- The cold start-up completes (R20). -/
  | coldStartUpCompletion
  /-- The supply is lost (R20). -/
  | supplyLoss
  /-- RESET_N falls (R22). -/
  | resetNFall
  /-- RESET_N is released (R23). -/
  | resetNRelease
  /-- The host writes POSTED onto the hand of an entry (R5). -/
  | arrival (entry : Entry)
  /-- The host writes FREE onto the hand of an entry it has posted (R6). -/
  | withdrawal (entry : Entry)
  /-- The host writes FREE onto the hand of a DONE entry (R7). -/
  | giveBack (entry : Entry)
  /-- The host writes CANCEL onto the hand of an entry (R8). -/
  | cancelRequest (entry : Entry)
  /-- The host writes any value onto a hand (R4). -/
  | handIllegal (entry : Entry) (value : Word)
  /-- The host writes word `offset` (1 to 31) of an entry (R3). -/
  | entryWordWrite (entry : Entry) (offset : Fin 32) (value : Word)
  /-- The host writes a word of the bulk area (R1). -/
  | bulkWrite (addr : Addr) (value : Word)
  /-- A host write to SUMMARY clears each flag whose position is written 0, and INT follows (R16). -/
  | summaryWrite (value : Word)
  /-- A host write to ENABLE stores the ten flag positions, and INT is asserted or released at once (R17). -/
  | enableWrite (value : Word)
  /-- A host write of 0 to FAULT clears it; any other value is not stored (R19). -/
  | faultWrite (value : Word)
  /-- A host write to PORT_ID is not stored and is recorded as exchange fault READ_ONLY (R2). -/
  | readOnly (value : Word)
  /-- The take of an entry whose kind is not one of the twenty-six completes it within the take with UNKNOWN_KIND (R12). -/
  | unknownKind
  /-- The DESCRIBE order answers vendor, part, fitted counts, snapshot size or edition information by leaf and sub-leaf, and always completes OK (R24). -/
  | describe
  /-- The SNAPSHOT order checks mask, offset and room, and writes the header and selected sections into the bulk area within the take (R27). -/
  | snapshot
  /-- The SET_TIME order checks the date, loads the clock, restarts the divider, clears the suspect mark and sends a time-set event (R36). -/
  | setTime
  /-- The SET_TIMER order checks its arguments and either rewrites the timer whole or, on a running timer with start 0, changes its preset alone (R42). -/
  | setTimer
  /-- The STOP_TIMER order stops a timer and reloads its count from the preset (R45). -/
  | stopTimer
  /-- The SET_CHANNEL order checks and stores a channel's configuration, empties its filter and puts it in FILLING (R54). -/
  | setChannel
  /-- The SET_SEA order stores the gauge agreement band (R60). -/
  | setSea
  /-- The LOAD_TIDE order copies the payload, checks the arguments and events, and replaces the spare edition (R70). -/
  | loadTide
  /-- The SWAP_TIDE order flips the live select, recomputes the prediction and sends an edition-change event, or completes WRONG_STATE if the spare edition is empty (R73). -/
  | swapTide
  /-- The SET_ALARM order checks and replaces an alarm record, returns it to QUIET and arms it if it is TIDE_LEAD (R106). -/
  | setAlarm
  /-- The ACK_ALARM order moves masked alarms from RAISED to STANDING and from CLEARED_UNACK to QUIET (R108). -/
  | ackAlarm
  /-- The SET_SCREEN order checks and stores a screen's configuration (R134). -/
  | setScreen
  /-- The WASH order is checked and, if accepted, becomes the screen's wash order and sends the screen a wash request with cause ORDER (R129). -/
  | wash
  /-- The HOLD_SCREEN order takes a screen out of service, clears its choked mark, ends a queued or running wash, and completes its wash order OVERTAKEN (R131). -/
  | holdScreen
  /-- The RELEASE_SCREEN order puts a screen in service (R132). -/
  | releaseScreen
  /-- The RESET_SCREEN order returns a STALLED screen whose OVERLOAD is inactive to PARKED (R133). -/
  | resetScreen
  /-- The SET_WASH order checks and stores the capacity, minimum pressure and loss tolerance (R147). -/
  | setWash
  /-- The SET_PUMP order checks and stores a pump's configuration and re-evaluates its availability (R168). -/
  | setPump
  /-- The HOLD_PUMP order takes a pump out of service and stops it with cause HELD if it is starting or running (R165). -/
  | holdPump
  /-- The RELEASE_PUMP order puts a pump in service and re-evaluates its availability (R166). -/
  | releasePump
  /-- The RESET_PUMP order returns a TRIPPED pump whose MOTOR_FAULT is inactive to STOPPED and starts its restart delay (R167). -/
  | resetPump
  /-- The SET_DEMAND order stores the demand D, computes L and reconciles (R192). -/
  | setDemand
  /-- The SET_ROSTER order checks and replaces the roster, and reconciles (R194). -/
  | setRoster
  /-- The CHANGE order is checked and, if accepted, saves the roster, exchanges the two pumps' places, starts the incoming and holds the entry as the change order (R189). -/
  | change
  /-- The LOCK_DUTY order sets the one-way duty lock (R195). -/
  | lockDuty
  /-- The SET_CHOKE order stores the choke limit K, computes L and reconciles if L has changed (R193). -/
  | setChoke
  /-- A whole confirm period of steady crystal ends: the time base enters CRYSTAL and the suspect mark is left as it stands (R28). -/
  | crystalConfirmed
  /-- A crystal gap in CRYSTAL switches the time base to RC_FALLBACK, sets the suspect mark and sets TIMEBASE (R29). -/
  | crystalFailure
  /-- The divider completes a second: the clock steps with its carries, and unit ticks and any minute event are sent (R31). -/
  | secondStep
  /-- A tick of a time unit at the timer bank decrements the count of each running timer of that unit (R38). -/
  | unitTick
  /-- A running timer's count steps from 1: the count reloads, the expiry count rises and the owner is told, with SUMMARY.TIMER set for owner REPORT (R38). -/
  | timerExpiry (timer : TimerNo)
  /-- An interval restart at the timer bank reloads the running timer owned by the screen from its preset (R46). -/
  | intervalRestart (screen : ScreenNo)
  /-- A minute event at the tide unit loads its copies of now and the suspect mark and recomputes the prediction (R80). -/
  | minuteEventTide
  /-- A minute event at the level unit appends the sea value to the minute history and sends a rate report (R65). -/
  | minuteEventLevel
  /-- A minute event at the alarm unit loads its copies and evaluates TIDE_LEAD triggers and CLOCK alarms (R98). -/
  | minuteEventAlarm
  /-- A time-set event at the tide unit loads the new now and suspect mark and recomputes the prediction (R81). -/
  | timeSetEventTide
  /-- A time-set event at the level unit empties the minute history and sends an invalid rate report (R67). -/
  | timeSetEventLevel
  /-- A time-set event at the alarm unit loads its copies and re-arms every enabled TIDE_LEAD alarm from the new now (R99). -/
  | timeSetEventAlarm
  /-- A suspect-change event at the tide unit sets its mark copy and recomputes, making the status NONE (R82). -/
  | suspectChangeEventTide
  /-- A suspect-change event at the alarm unit sets its mark copy and makes every enabled TIDE_LEAD alarm inactive (R100). -/
  | suspectChangeEventAlarm
  /-- An edition-change event at the alarm unit re-arms every enabled TIDE_LEAD alarm from the new live edition (R74). -/
  | editionChangeEvent
  /-- A scan ends: every channel handles its raw code, qualities and the sea record are derived, and the scan reports are sent (R49). -/
  | scanCompletion (codes : Vector RawCode 16)
  /-- A sea report at the alarm unit evaluates every enabled LEVEL and SURGE alarm (R87). -/
  | seaReport
  /-- A rate report at the alarm unit evaluates every enabled RISE_RATE and FALL_RATE alarm (R66). -/
  | rateReport
  /-- A differential report at the screen unit sets or clears each fitted screen's choked mark and makes differential wash requests (R126). -/
  | differentialReport
  /-- A W report at the pump unit re-evaluates availability and checks each starting or running pump against its minimum submergence (R164). -/
  | wReport
  /-- A W report at the duty unit is stored as its last W (R177). -/
  | wReportDuty
  /-- An H report at the wash unit makes the pressure test, updates the loss count and the pressurised condition, and may suspend washes (R138). -/
  | hReport
  /-- A running-pump report at the wash unit stores the number of running pumps (R140). -/
  | runningPumpReport
  /-- With the grant condition holding, the wash unit grants a slot to the head of the wash queue, which enters STARTING (R143). -/
  | grant
  /-- A wash request with cause INTERVAL or TIDE reaches a screen and is handled by its service and state (R116). -/
  | washRequest (screen : ScreenNo)
  /-- A qualified TURN edge moves a STARTING screen to WASHING or counts a turn of a WASHING screen (R119). -/
  | turnEdge (screen : ScreenNo) (level : Bool)
  /-- A screen's turn watch expires in STARTING or WASHING and the screen enters STALLED (R124). -/
  | turnWatchExpiry (screen : ScreenNo)
  /-- A screen's rundown clock expires: the outputs go off and the screen parks, or queues again if the again mark is set (R122). -/
  | rundownExpiry (screen : ScreenNo)
  /-- A qualified OVERLOAD going active stalls a screen in STARTING, WASHING or RUNDOWN (R123). -/
  | overloadEvent (screen : ScreenNo) (level : Bool)
  /-- A cancel request reaching a screen that holds a wash order ends the wash by the screen's state and completes the order CANCELLED (R130). -/
  | washCancel (screen : ScreenNo)
  /-- A choke-change event at the duty unit stores the choke state, computes L and reconciles (R175). -/
  | chokeChangeEvent
  /-- An action-change event at the duty unit stores the derate floor and hold state, computes L and reconciles (R175). -/
  | actionChangeEvent
  /-- A start request at the pump unit starts the named pump if it is available, or refuses it with a refused report (R156). -/
  | startRequest
  /-- A duty stop request at the pump unit takes a starting or running pump to STOPPING (R160). -/
  | stopRequest
  /-- A qualified PROOF edge proves a STARTING pump into RUNNING, or stops the loss watch of a RUNNING pump (R157). -/
  | proofEdge (pump : PumpNo)
  /-- A qualified PROOF drop at a RUNNING pump starts its loss watch (R158). -/
  | proofDrop (pump : PumpNo)
  /-- A qualified MOTOR_FAULT going active trips a starting, running or stopping pump, or makes a stopped pump unavailable (R162). -/
  | motorFaultEvent (pump : PumpNo)
  /-- A qualified MOTOR_FAULT going inactive re-evaluates a stopped pump's availability (R153). -/
  | motorFaultClear (pump : PumpNo)
  /-- A pump's prove watch expires and the pump trips with PROOF_FAIL (R157). -/
  | proveWatchExpiry (pump : PumpNo)
  /-- A running pump's loss watch expires and the pump trips with PROOF_LOST (R158). -/
  | lossWatchExpiry (pump : PumpNo)
  /-- A pump's stopping clock expires: the pump enters STOPPED and its restart delay starts (R161). -/
  | stoppingClockExpiry (pump : PumpNo)
  /-- A stopped pump's restart-delay remaining reaches 0 and its availability is re-evaluated (R161). -/
  | restartDelayEnd (pump : PumpNo)
  /-- A pump-change report at the duty unit updates the pump view, applies the move rules, computes L, reconciles and settles the shortfall mark (R177). -/
  | pumpChangeReport
  /-- A cancel request reaching the duty unit while it holds the change order stops the incoming, restores the roster and completes the order CANCELLED (R190). -/
  | changeCancel
  /-- A rotation expiry at the duty unit is discarded, marked pending, or rotates the roster and reconciles (R191). -/
  | rotationExpiry
  /-- In RC_START or RC_FALLBACK, the crystal shows a gap of 2 ms or more, or runs outside ±5% of the RC frequency, and the crystal monitor restarts its 2 s confirm period (R28). -/
  | confirmPeriodRestart
  deriving DecidableEq, Repr

end Sys2Proof
end

