-- ==== Sys2Proof/Decode.lean ====
section
/-!
DEFINITION. Decoding by the table's bits. No row of spec/opcode_table.json gives bits: the commands are host bus cycles,
takes, and events inside the part and at its pins, and none is a word (log 5).
-/

namespace Sys2Proof

/-- The command a word spells by the table's bits: none, since no row gives bits. -/
def decodeTableWord (_nbits _w : Nat) : Option Instr := none

end Sys2Proof
end

