-- ==== Sys2Proof/Machine/Records.lean ====
section
/-!
DEFINITION. The records the State is built of, unit by unit, with the names of the spec's own tables. Counts and times
are natural numbers, levels and heights exact integers (millimetres), what the port moves as words is bit vectors.
-/

namespace Sys2Proof.Machine

/-! ## Port and order unit (01) -/

/-- Whether the part is powered, in the cold start-up, running, or held by RESET_N (R20, R22, R23). -/
inductive Phase where
  | unpowered
  | coldStart
  | running
  | held
  deriving DecidableEq, Repr

/-- The five values of a hand word (01 section 1.2). -/
inductive Hand where
  | free
  | posted
  | taken
  | done
  | cancel
  deriving DecidableEq, Repr

/-- The kinds of exchange fault (R18). -/
inductive FaultKind where
  | none
  | handIllegal
  | entryLocked
  | readOnly
  deriving DecidableEq, Repr

/-- The fault record that FAULT holds (R18). -/
structure ExchangeFault where
  kind : FaultKind
  more : Bool
  index : Entry
  offset : Fin 32
  deriving DecidableEq, Repr

/-- The registers of the port: SUMMARY and ENABLE with their ten flag positions, FAULT (R2, R199). -/
structure Port where
  summary : BitVec 10
  enable : BitVec 10
  fault : ExchangeFault
  deriving DecidableEq, Repr

/-- The ten flags of SUMMARY (R15). -/
inductive Flag where
  | started
  | orderDone
  | alarm
  | sea
  | tide
  | screen
  | pump
  | timebase
  | timer
  | exchange
  deriving DecidableEq, Repr

/-- The results of a completion (R13). -/
inductive OrderResult where
  | ok
  | unknownKind
  | badArgument
  | notFitted
  | busy
  | wrongState
  | locked
  | roomShort
  | cancelled
  | failed
  | overtaken
  | restarted
  deriving DecidableEq, Repr

/-- The twenty-six kinds of order (R11, R200). -/
inductive OrderKind where
  | describe
  | snapshot
  | setTime
  | setTimer
  | stopTimer
  | setChannel
  | setSea
  | loadTide
  | swapTide
  | setAlarm
  | ackAlarm
  | setScreen
  | wash
  | holdScreen
  | releaseScreen
  | resetScreen
  | setWash
  | setPump
  | holdPump
  | releasePump
  | resetPump
  | setDemand
  | setRoster
  | change
  | lockDuty
  | setChoke
  deriving DecidableEq, Repr

/-- The order unit's working copy of an entry: words 1 to 15, and for LOAD_TIDE the payload (R10). -/
structure WorkingCopy where
  entry : Entry
  kind : Word
  tag : Word
  args : List Word
  payload : List Word
  deriving DecidableEq, Repr

/-! ## Time unit (02) -/

/-- The time-base states (02 section 2.1). -/
inductive TimeBase where
  | rcStart
  | crystal
  | rcFallback
  deriving DecidableEq, Repr

/-- The civil clock (02 section 2.2). -/
structure Clock where
  year : Nat
  month : Nat
  day : Nat
  weekday : Nat
  hour : Nat
  minute : Nat
  second : Nat
  minuteCount : Nat
  suspect : Bool
  deriving DecidableEq, Repr

/-- The time units of the timer bank (02 section 2.4). -/
inductive TickUnit where
  | second
  | minute
  | quarterHour
  | hour
  deriving DecidableEq, Repr

/-- The owner of a timer (02 section 2.4). -/
inductive TimerOwner where
  | none
  | screen (n : ScreenNo)
  | rotation
  | report
  deriving DecidableEq, Repr

/-- A timer of the bank (02 section 2.4). -/
structure Timer where
  owner : TimerOwner
  unit : TickUnit
  preset : Nat
  count : Nat
  running : Bool
  expiries : Nat
  deriving DecidableEq, Repr

/-- The time unit: time base, divider and confirm period in source cycles, clock, timer bank, and what R35 keeps through
the hold. -/
structure TimeUnit where
  base : TimeBase
  divider : Nat
  confirm : Nat
  clock : Clock
  timers : Vector Timer 16
  failedInHold : Bool
  suspectAtFall : Bool
  deriving DecidableEq, Repr

/-- What a minute event carries (R32). -/
structure MinuteEvent where
  count : Nat
  hour : Nat
  minute : Nat
  weekday : Nat
  day : Nat
  suspect : Bool
  deriving DecidableEq, Repr

/-- The events the time unit sends to the units that depend on the minute (R32, R34, R37). -/
inductive TimeEvent where
  | minute (m : MinuteEvent)
  | timeSet (old new : Nat) (suspect : Bool)
  | suspectChange (suspect : Bool)
  deriving DecidableEq, Repr

/-! ## Level unit (03) -/

/-- Channel quality (R50). -/
inductive Quality where
  | unconfigured
  | filling
  | good
  | broken
  | over
  | stuck
  deriving DecidableEq, Repr

/-- A channel of the level board (03 section 3.1). The filter holds its oldest code first. -/
structure Channel where
  rawLow : Nat
  rawHigh : Nat
  engLow : Int
  engHigh : Int
  faultLow : Nat
  faultHigh : Nat
  stuckWindow : Nat
  quality : Quality
  filter : List Nat
  value : Int
  lastRaw : Nat
  runLength : Nat
  deriving DecidableEq, Repr

/-- A value with its channel quality, as a W or H report carries it (R63). -/
structure Measure where
  value : Int
  quality : Quality
  deriving DecidableEq, Repr

/-- A differential, valid or INVALID (R62). -/
structure Differential where
  value : Int
  valid : Bool
  deriving DecidableEq, Repr

/-- Sea quality (03 section 3.5). -/
inductive SeaQuality where
  | good
  | disagree
  | single
  | lost
  deriving DecidableEq, Repr

/-- The gauge in use of the sea block (R198). -/
inductive Gauge where
  | mean
  | g0
  | g1
  | held
  deriving DecidableEq, Repr

/-- The level unit: channels, whether a scan since the last reset stands to compare with (R52), sea record, minute history
(oldest first). -/
structure Level where
  channels : Vector Channel 16
  scanned : Bool
  seaValue : Int
  seaQuality : SeaQuality
  gauge : Gauge
  band : Nat
  history : List (Int × SeaQuality)
  deriving DecidableEq, Repr

/-! ## Tide unit (04) -/

/-- HIGH or LOW water. -/
inductive TideKind where
  | high
  | low
  deriving DecidableEq, Repr

/-- A tide event (04 section 4.1). -/
structure TideEvent where
  kind : TideKind
  time : Nat
  height : Int
  deriving DecidableEq, Repr

/-- The two editions. -/
inductive Edition where
  | a
  | b
  deriving DecidableEq, Repr

/-- The tide unit: editions, live select, its copies of the clock (R69), prediction (04 section 4.4). -/
structure Tide where
  editionA : List TideEvent
  editionB : List TideEvent
  live : Edition
  now : Nat
  suspect : Bool
  valid : Bool
  level : Int
  nextHigh : Option (Nat × Int)
  nextLow : Option (Nat × Int)
  short : Bool
  deriving DecidableEq, Repr

/-! ## Alarm unit (05) -/

/-- The eight kinds of alarm (05 section 5.1). -/
inductive AlarmKind where
  | levelHigh
  | levelLow
  | surgeHigh
  | surgeLow
  | riseRate
  | fallRate
  | tideLead
  | clock
  deriving DecidableEq, Repr

/-- The states of an alarm (05 section 5.3). -/
inductive AlarmState where
  | quiet
  | pending
  | raised
  | standing
  | clearedUnack
  deriving DecidableEq, Repr

/-- An action set (05 section 5.1). -/
structure ActionSet where
  washAll : Bool
  derate : Bool
  holdRotation : Bool
  deriving DecidableEq, Repr

/-- The tide events a TIDE_LEAD alarm fires before; `unused` is the 0 stored for other kinds (05 section 5.1). -/
inductive Which where
  | unused
  | high
  | low
  | both
  deriving DecidableEq, Repr

/-- The mode of a CLOCK alarm. -/
inductive ClockMode where
  | weekdays
  | date
  deriving DecidableEq, Repr

/-- An alarm record (05 section 5.1). -/
structure Alarm where
  kind : AlarmKind
  enabled : Bool
  threshold : Int
  hysteresis : Nat
  persistence : Nat
  actions : ActionSet
  derateValue : Nat
  lead : Nat
  which : Which
  hour : Nat
  minute : Nat
  mode : ClockMode
  weekdays : BitVec 7
  day : Nat
  state : AlarmState
  count : Nat
  raised : Option Nat
  inputLost : Bool
  armed : Option Nat
  deriving DecidableEq, Repr

/-- The alarm unit: the table and its copies of the clock (R95). -/
structure AlarmUnit where
  records : Vector Alarm 16
  now : Nat
  suspect : Bool
  deriving DecidableEq, Repr

/-! ## Screen unit (06) and wash unit (07) -/

/-- The service of a screen (R112). -/
inductive ScreenService where
  | inService
  | held
  deriving DecidableEq, Repr

/-- The states of a screen (06 section 6.1). -/
inductive ScreenState where
  | parked
  | queued
  | starting
  | washing
  | rundown
  | stalled
  deriving DecidableEq, Repr

/-- The causes of a wash (06 section 6.3). -/
inductive Cause where
  | interval
  | differential
  | tide
  | order
  deriving DecidableEq, Repr

/-- A cause set (06 section 6.1). -/
structure CauseSet where
  interval : Bool
  differential : Bool
  tide : Bool
  order : Bool
  deriving DecidableEq, Repr

/-- The wash order a screen holds: the entry, the order's turns and the tag copied at the take (06 section 6.1, R13). -/
structure WashOrder where
  entry : Entry
  turns : Nat
  tag : Word
  deriving DecidableEq, Repr

/-- A screen record (06 section 6.1), its FAST output (R114) and its qualified input levels (R115). A watch or clock that
is stopped is `none`, one that runs holds the seconds remaining; at 0 its expiry is due (log 7). `dpReached` keeps whether
the last differential report gave dP valid and at or above the start threshold, as that report found it (R120, R134,
log 27). -/
structure Screen where
  service : ScreenService
  state : ScreenState
  causes : CauseSet
  stored : CauseSet
  turnsWanted : Nat
  turnsDone : Nat
  configTurns : Nat
  startThreshold : Int
  chokeThreshold : Int
  turnTimeout : Nat
  rundownTime : Nat
  intervalRestart : Bool
  choked : Bool
  again : Bool
  washOrder : Option WashOrder
  washCount : Nat
  lastWashEnd : Option Nat
  lastDp : Differential
  dpReached : Bool
  turnWatch : Option Nat
  rundownClock : Option Nat
  fast : Bool
  turn : Bool
  overload : Bool
  deriving DecidableEq, Repr

/-- The classes of the wash queue (R141). -/
inductive WashClass where
  | urgent
  | routine
  deriving DecidableEq, Repr

/-- The wash header (07 section 7.1). The queue stands head first. -/
structure Wash where
  capacity : Nat
  minPressure : Nat
  tolerance : Nat
  slots : Nat
  pressurised : Bool
  lossCount : Nat
  running : Nat
  lastH : Measure
  queue : List (ScreenNo × WashClass)
  deriving DecidableEq, Repr

/-! ## Pump unit (08) -/

/-- The service of a pump (R151). -/
inductive PumpService where
  | inService
  | outOfService
  deriving DecidableEq, Repr

/-- The states of a pump (08 section 8.1). -/
inductive PumpState where
  | stopped
  | starting
  | running
  | stopping
  | tripped
  deriving DecidableEq, Repr

/-- The stop causes (08 section 8.1). -/
inductive StopCause where
  | proofFail
  | proofLost
  | motorTrip
  | submergence
  | held
  | duty
  deriving DecidableEq, Repr

/-- A pump record (08 section 8.1) and its qualified input levels (R153). A watch or clock that is stopped is `none`, one
that runs holds the seconds remaining; at 0 its expiry is due (log 7). `delayDue` says that the second which takes the
restart-delay remaining from 1 to 0 has passed, its end being due (log 8). -/
structure Pump where
  service : PumpService
  state : PumpState
  proveTime : Nat
  lossTolerance : Nat
  stoppingTime : Nat
  restartDelay : Nat
  minSubmergence : Int
  delayRemaining : Nat
  delayDue : Bool
  lastStop : Option StopCause
  runMinutes : Nat
  runSeconds : Nat
  startCount : Nat
  submergenceCount : Nat
  available : Bool
  proveWatch : Option Nat
  lossWatch : Option Nat
  stoppingClock : Option Nat
  proof : Bool
  motorFault : Bool
  deriving DecidableEq, Repr

/-- The pump unit: records and the last W report. -/
structure PumpUnit where
  records : Vector Pump 6
  lastW : Measure
  deriving DecidableEq, Repr

/-- A pump-change report (R155). -/
structure PumpReport where
  pump : PumpNo
  state : PumpState
  service : PumpService
  available : Bool
  lastStop : Option StopCause
  refused : Bool
  deriving DecidableEq, Repr

/-- A request of the duty unit to the pump unit (R156, R160). A stop request carries cause DUTY. -/
inductive PumpRequest where
  | start (p : PumpNo)
  | stop (p : PumpNo)
  deriving DecidableEq, Repr

/-! ## Duty unit (09) -/

/-- The origin of a CHANGE move. -/
inductive Origin where
  | order
  | reconcile
  deriving DecidableEq, Repr

/-- The move slot (09 section 9.1). -/
inductive Move where
  | none
  | start (p : PumpNo)
  | change (incoming outgoing : PumpNo) (origin : Origin)
  deriving DecidableEq, Repr

/-- The duty unit's view of a pump (R173). -/
structure PumpView where
  state : PumpState
  available : Bool
  stopSent : Bool
  deriving DecidableEq, Repr

/-- The change order the duty unit holds: the entry and the tag copied at the take (R13). -/
structure ChangeOrder where
  entry : Entry
  tag : Word
  deriving DecidableEq, Repr

/-- The duty record (09 section 9.1). The roster stands head first. -/
structure Duty where
  roster : List PumpNo
  demand : Nat
  chokeLimit : Nat
  chokeCopy : Bool
  floorCopy : Option Nat
  holdCopy : Bool
  limit : Nat
  lock : Bool
  rotationPending : Bool
  shortfall : Bool
  move : Move
  changeOrder : Option ChangeOrder
  savedRoster : Option (List PumpNo)
  view : Vector PumpView 6
  lastW : Measure
  deriving DecidableEq, Repr

/-! ## Events on their way -/

/-- What one unit has sent and has not yet reached the other, oldest first (log 2). -/
structure Wires where
  ticks : List TickUnit
  dueSteps : List (TimerNo × TickUnit)
  toTide : List TimeEvent
  toLevel : List TimeEvent
  toAlarm : List TimeEvent
  editionChanges : List Edition
  seaReports : List (Int × SeaQuality)
  rateReports : List (Int × Bool)
  diffReports : List (List (ScreenNo × Differential))
  wToPump : List Measure
  wToDuty : List Measure
  hReports : List Measure
  runningReports : List Nat
  pumpReports : List PumpReport
  pumpRequests : List PumpRequest
  washRequests : List (ScreenNo × Cause)
  intervalRestarts : List ScreenNo
  rotationExpiries : Nat
  washCancels : List (ScreenNo × Entry)
  changeCancels : List Entry
  chokeChanges : List Bool
  actionChanges : List (Option Nat × Bool)
  deriving DecidableEq, Repr

end Sys2Proof.Machine
end

