-- ==== Sys2Proof/Machine/Table.lean ====
section
/-!
DEFINITION. Reading, writing and rebuilding the fixed tables of State (hands, timers, channels, alarms, screens, pumps,
views), each indexed by the number of its records. Every table access of the machine goes through these three.
-/

namespace Sys2Proof.Machine

variable {n : Nat} {α β : Type}

/-- The record `i` of a table. -/
def sel (v : Vector α n) (i : Fin n) : α := v[i.1]'i.2

/-- The table with record `i` replaced. -/
def upd (v : Vector α n) (i : Fin n) (x : α) : Vector α n := v.set i.1 x i.2

/-- The table whose record `i` is `f i`. -/
def tab (f : Fin n → α) : Vector α n := ⟨⟨(List.finRange n).map f⟩, by simp⟩

/-- The indices of a table whose records satisfy `p`, in ascending order. -/
def indices (p : Fin n → Bool) : List (Fin n) := (List.finRange n).filter p

/-- Removes the first element that satisfies `p` from a list and gives it with the rest. -/
def takeFirst (p : α → Bool) : List α → Option (α × List α)
  | [] => none
  | x :: xs =>
    if p x then some (x, xs)
    else match takeFirst p xs with
      | none => none
      | some (y, ys) => some (y, x :: ys)

/-- The integer `x` kept within `lo` and `hi`. -/
def clamp (lo hi x : Int) : Int := if x < lo then lo else if hi < x then hi else x

/-- The limits of a signed 16-bit field (R51, R62, R66). -/
def clamp16 (x : Int) : Int := clamp (-32768) 32767 x

end Sys2Proof.Machine
end

