-- ==== Sys2Proof/Machine/Cold.lean ====
section
/-!
DEFINITION. The cold-reset value of every unit's state, as each chapter gives it (R20, R21, R35, R48, R56, R61, R67, R84,
R110, R115, R135, R149, R153, R170, R196).
-/

namespace Sys2Proof.Machine

/-- The fitted count a strap gives: 0 is taken as 1, above 6 as 6 (R21). -/
def fittedCount (strap : BitVec 3) : Nat :=
  if strap.toNat = 0 then 1 else if 6 < strap.toNat then 6 else strap.toNat

/-- A FAULT of kind NONE (R19). -/
def ExchangeFault.clear : ExchangeFault := { kind := .none, more := false, index := 0, offset := 0 }

/-- SUMMARY, ENABLE and FAULT are 0 (R20). -/
def Port.cold : Port := { summary := 0, enable := 0, fault := ExchangeFault.clear }

/-- Every hand is FREE (R20). -/
def coldHands : Vector Hand 32 := tab fun _ => .free

/-- The clock at cold reset: 2000-01-01 00:00:00, a Saturday, the suspect mark set (R35). -/
def Clock.cold : Clock :=
  { year := 2000, month := 1, day := 1, weekday := 5, hour := 0, minute := 0, second := 0, minuteCount := 0,
    suspect := true }

/-- Every timer at cold reset (R48). -/
def Timer.cold : Timer :=
  { owner := .none, unit := .second, preset := 1, count := 1, running := false, expiries := 0 }

/-- The time unit at cold reset (R35, R48). The divider's count, which R35 does not name, is 0 (log 4). -/
def TimeUnit.cold : TimeUnit :=
  { base := .rcStart, divider := 0, confirm := 0, clock := Clock.cold, timers := tab fun _ => Timer.cold,
    failedInHold := false, suspectAtFall := true }

/-- Every channel at cold reset (R56). -/
def Channel.cold : Channel :=
  { rawLow := 0, rawHigh := 0, engLow := 0, engHigh := 0, faultLow := 0, faultHigh := 0, stuckWindow := 0,
    quality := .unconfigured, filter := [], value := 0, lastRaw := 0, runLength := 0 }

/-- The level unit at cold reset (R52, R56, R61, R67). -/
def Level.cold : Level :=
  { channels := tab fun _ => Channel.cold, scanned := false, seaValue := 0, seaQuality := .lost, gauge := .held,
    band := 100, history := [] }

/-- The tide unit at cold reset (R84). -/
def Tide.cold : Tide :=
  { editionA := [], editionB := [], live := .a, now := 0, suspect := true, valid := false, level := 0,
    nextHigh := none, nextLow := none, short := true }

/-- The empty action set. -/
def ActionSet.empty : ActionSet := { washAll := false, derate := false, holdRotation := false }

/-- Every alarm at cold reset (R110). -/
def Alarm.cold : Alarm :=
  { kind := .levelHigh, enabled := false, threshold := 0, hysteresis := 0, persistence := 1,
    actions := ActionSet.empty, derateValue := 0, lead := 0, which := .unused, hour := 0, minute := 0,
    mode := .weekdays, weekdays := 0, day := 0, state := .quiet, count := 0, raised := none, inputLost := false,
    armed := none }

/-- The alarm unit at cold reset (R110). -/
def AlarmUnit.cold : AlarmUnit := { records := tab fun _ => Alarm.cold, now := 0, suspect := true }

/-- The empty cause set. -/
def CauseSet.empty : CauseSet := { interval := false, differential := false, tide := false, order := false }

/-- Every screen at cold reset (R135), its qualified levels inactive (R115). -/
def Screen.cold : Screen :=
  { service := .held, state := .parked, causes := CauseSet.empty, stored := CauseSet.empty, turnsWanted := 2,
    turnsDone := 0, configTurns := 2, startThreshold := 150, chokeThreshold := 400, turnTimeout := 240,
    rundownTime := 30, intervalRestart := false, choked := false, again := false, washOrder := none, washCount := 0,
    lastWashEnd := none, lastDp := { value := 0, valid := false }, dpReached := false, turnWatch := none, rundownClock := none,
    fast := false, turn := false, overload := false }

/-- The six screens at cold reset (R135). -/
def coldScreens : Vector Screen 6 := tab fun _ => Screen.cold

/-- The wash unit at cold reset (R149). -/
def Wash.cold : Wash :=
  { capacity := 1, minPressure := 150, tolerance := 15, slots := 0, pressurised := false, lossCount := 0,
    running := 0, lastH := { value := 0, quality := .unconfigured }, queue := [] }

/-- Every pump at cold reset (R170), its qualified levels inactive (R153). The restart-delay remaining is loaded at the
end of the cold start-up; before that it is 0 (log 4). -/
def Pump.cold : Pump :=
  { service := .outOfService, state := .stopped, proveTime := 30, lossTolerance := 5, stoppingTime := 60,
    restartDelay := 300, minSubmergence := 0, delayRemaining := 0, delayDue := false, lastStop := none, runMinutes := 0, runSeconds := 0,
    startCount := 0, submergenceCount := 0, available := false, proveWatch := none, lossWatch := none,
    stoppingClock := none, proof := false, motorFault := false }

/-- The pump unit at cold reset (R170). -/
def PumpUnit.cold : PumpUnit :=
  { records := tab fun _ => Pump.cold, lastW := { value := 0, quality := .unconfigured } }

/-- The view of a pump that is stopped and not available (R196, R197). -/
def PumpView.idle : PumpView := { state := .stopped, available := false, stopSent := false }

/-- The natural order of the fitted pumps (R172). -/
def naturalRoster (fittedPumps : Nat) : List PumpNo := indices fun p => p.1 < fittedPumps

/-- The duty unit at cold reset (R196). -/
def Duty.cold (fittedPumps : Nat) : Duty :=
  { roster := naturalRoster fittedPumps, demand := 0, chokeLimit := fittedPumps, chokeCopy := false, floorCopy := none,
    holdCopy := false, limit := 0, lock := false, rotationPending := false, shortfall := false, move := .none,
    changeOrder := none, savedRoster := none, view := tab fun _ => PumpView.idle,
    lastW := { value := 0, quality := .unconfigured } }

/-- Nothing is on its way. -/
def Wires.empty : Wires :=
  { ticks := [], dueSteps := [], toTide := [], toLevel := [], toAlarm := [], editionChanges := [], seaReports := [],
    rateReports := [], diffReports := [], wToPump := [], wToDuty := [], hReports := [], runningReports := [],
    pumpReports := [], pumpRequests := [], washRequests := [], intervalRestarts := [], rotationExpiries := 0,
    washCancels := [], changeCancels := [], chokeChanges := [], actionChanges := [] }

end Sys2Proof.Machine
end

