-- ==== Sys2Proof/Machine/State.lean ====
section
/-!
DEFINITION. The state of the part, as plain data, the reasons a step can stop, and the state right after reset.
-/

namespace Sys2Proof.Machine

/-- The reasons a step stops with a fault: none. The spec gives every event its effect and names no event that stops the
part; a loss of supply is a phase of State (R20). Safe: nothing is cut short by it. -/
inductive Fault where
  deriving DecidableEq, Repr

/-- The reasons a command is refused. -/
inductive Refusal where
  /-- Raised by an arm of exec whose command has no meaning yet; no arm raises it now. Safe: the machine stops. -/
  | notModelled (mnemonic : String)
  deriving DecidableEq, Repr

/-- The state of the part, unit by unit (00 section 0.3), with the events on their way between the units and the queue of
commands that wait (log 1, log 2). -/
structure State where
  /-- The commands that wait, first in first out. -/
  pending : List Instr
  phase : Phase
  /-- RESET_N is low. -/
  resetLow : Bool
  fittedScreens : Nat
  fittedPumps : Nat
  port : Port
  /-- Exchange memory but for the hand words: word address and word, canonical (log 10). -/
  mem : List (Nat × Word)
  hands : Vector Hand 32
  intake : List Entry
  time : TimeUnit
  level : Level
  tide : Tide
  alarm : AlarmUnit
  screens : Vector Screen 6
  wash : Wash
  pumps : PumpUnit
  duty : Duty
  wires : Wires
  /-- How many free values have been drawn: the model's own field (log 11). -/
  draws : Nat
  deriving DecidableEq, Repr

/-- The part right after reset: power has been applied, every unit stands at its cold-reset state, and the cold start-up is
under way (R20). The straps read 6 and 6 and RESET_N stands high (log 3). -/
def State.reset : State :=
  { pending := [], phase := .coldStart, resetLow := false, fittedScreens := fittedCount 6, fittedPumps := fittedCount 6,
    port := Port.cold, mem := [], hands := coldHands, intake := [], time := TimeUnit.cold, level := Level.cold,
    tide := Tide.cold, alarm := AlarmUnit.cold, screens := coldScreens, wash := Wash.cold, pumps := PumpUnit.cold,
    duty := Duty.cold (fittedCount 6), wires := Wires.empty, draws := 0 }

end Sys2Proof.Machine
end

