-- ==== Sys2Proof/Machine/Operands.lean ====
section
/-!
DEFINITION. The operand forms of the orders and the encodings of R198 and R200: how a word is read as a number, a signed
value, a code, a set or a kind, and how the part writes each back.
-/

namespace Sys2Proof.Machine

/-! ## Numbers -/

/-- A number as a word. -/
def word (n : Nat) : Word := BitVec.ofNat 16 n

/-- A signed value as a word, two's complement (R198). -/
def signedWord (i : Int) : Word := BitVec.ofInt 16 i

/-- A mark or a yes-or-no answer (R198). -/
def bit (b : Bool) : Nat := if b then 1 else 0

/-- An instant in two words, the low word first; absent as 0xFFFF in both (R198). -/
def instantWords : Option Nat → List Word
  | none => [0xFFFF, 0xFFFF]
  | some t => [word t, word (t / 65536)]

/-- The last instant of the civil clock (02 section 2.2). -/
def lastInstant : Nat := 52595999

/-- A word whose fields are the given numbers at the given bit positions, every other bit 0 (R198). -/
def packed (fields : List (Nat × Nat)) : Word :=
  word (fields.foldl (fun acc f => acc + f.2 * 2 ^ f.1) 0)

/-! ## Codes (R198) -/

/-- The value of a hand word. -/
def Hand.code : Hand → Word
  | .free => 0
  | .posted => 1
  | .taken => 2
  | .done => 3
  | .cancel => 4

/-- The hand that a word written onto a hand names, if any (R4). -/
def Hand.ofWord (w : Word) : Option Hand :=
  match w.toNat with
  | 0 => some .free
  | 1 => some .posted
  | 2 => some .taken
  | 3 => some .done
  | 4 => some .cancel
  | _ => none

/-- The result codes (11 section 11.3). -/
def OrderResult.code : OrderResult → Word
  | .ok => 0
  | .unknownKind => 1
  | .badArgument => 2
  | .notFitted => 3
  | .busy => 4
  | .wrongState => 5
  | .locked => 6
  | .roomShort => 7
  | .cancelled => 8
  | .failed => 9
  | .overtaken => 10
  | .restarted => 12

/-- The kind that a word names, if any (R200). -/
def OrderKind.ofWord (w : Word) : Option OrderKind :=
  match w.toNat with
  | 0x01 => some .describe
  | 0x02 => some .snapshot
  | 0x03 => some .setTime
  | 0x04 => some .setTimer
  | 0x05 => some .stopTimer
  | 0x06 => some .setChannel
  | 0x07 => some .setSea
  | 0x08 => some .loadTide
  | 0x09 => some .swapTide
  | 0x0A => some .setAlarm
  | 0x0B => some .ackAlarm
  | 0x0C => some .setScreen
  | 0x0D => some .wash
  | 0x0E => some .holdScreen
  | 0x0F => some .releaseScreen
  | 0x10 => some .resetScreen
  | 0x11 => some .setWash
  | 0x12 => some .setPump
  | 0x13 => some .holdPump
  | 0x14 => some .releasePump
  | 0x15 => some .resetPump
  | 0x16 => some .setDemand
  | 0x17 => some .setRoster
  | 0x18 => some .change
  | 0x19 => some .lockDuty
  | 0x1A => some .setChoke
  | _ => none

def Edition.code : Edition → Nat
  | .a => 0
  | .b => 1

def TideKind.code : TideKind → Nat
  | .high => 1
  | .low => 2

/-- The kind word of a tide payload (R71 check 3). -/
def TideKind.ofWord (w : Word) : Option TideKind :=
  match w.toNat with
  | 1 => some .high
  | 2 => some .low
  | _ => none

def TimeBase.code : TimeBase → Nat
  | .rcStart => 0
  | .crystal => 1
  | .rcFallback => 2

def TimerOwner.code : TimerOwner → Nat
  | .none => 0
  | .screen _ => 1
  | .rotation => 2
  | .report => 3

def TickUnit.code : TickUnit → Nat
  | .second => 0
  | .minute => 1
  | .quarterHour => 2
  | .hour => 3

def TickUnit.ofWord (w : Word) : Option TickUnit :=
  match w.toNat with
  | 0 => some .second
  | 1 => some .minute
  | 2 => some .quarterHour
  | 3 => some .hour
  | _ => none

def Quality.code : Quality → Nat
  | .unconfigured => 0
  | .filling => 1
  | .good => 2
  | .broken => 3
  | .over => 4
  | .stuck => 5

def SeaQuality.code : SeaQuality → Nat
  | .good => 0
  | .disagree => 1
  | .single => 2
  | .lost => 3

def Gauge.code : Gauge → Nat
  | .mean => 0
  | .g0 => 1
  | .g1 => 2
  | .held => 3

def AlarmKind.code : AlarmKind → Nat
  | .levelHigh => 0
  | .levelLow => 1
  | .surgeHigh => 2
  | .surgeLow => 3
  | .riseRate => 4
  | .fallRate => 5
  | .tideLead => 6
  | .clock => 7

def AlarmKind.ofWord (w : Word) : Option AlarmKind :=
  match w.toNat with
  | 0 => some .levelHigh
  | 1 => some .levelLow
  | 2 => some .surgeHigh
  | 3 => some .surgeLow
  | 4 => some .riseRate
  | 5 => some .fallRate
  | 6 => some .tideLead
  | 7 => some .clock
  | _ => none

def AlarmState.code : AlarmState → Nat
  | .quiet => 0
  | .pending => 1
  | .raised => 2
  | .standing => 3
  | .clearedUnack => 4

/-- Action set mask: WASH_ALL bit 0, DERATE bit 1, HOLD_ROTATION bit 2. -/
def ActionSet.code (a : ActionSet) : Nat := bit a.washAll + 2 * bit a.derate + 4 * bit a.holdRotation

/-- The action set a word names; a bit beyond the three actions names none (R106 check 4). -/
def ActionSet.ofWord (w : Word) : Option ActionSet :=
  if w.toNat < 8 then
    some { washAll := w.getLsbD 0, derate := w.getLsbD 1, holdRotation := w.getLsbD 2 }
  else none

def Which.code : Which → Nat
  | .unused => 0
  | .high => 1
  | .low => 2
  | .both => 3

def Which.ofWord (w : Word) : Option Which :=
  match w.toNat with
  | 1 => some .high
  | 2 => some .low
  | 3 => some .both
  | _ => none

def ClockMode.code : ClockMode → Nat
  | .weekdays => 0
  | .date => 1

def ClockMode.ofWord (w : Word) : Option ClockMode :=
  match w.toNat with
  | 0 => some .weekdays
  | 1 => some .date
  | _ => none

/-- A yes-or-no argument, 0 or 1. -/
def markOfWord (w : Word) : Option Bool :=
  match w.toNat with
  | 0 => some false
  | 1 => some true
  | _ => none

def ScreenService.code : ScreenService → Nat
  | .inService => 0
  | .held => 1

def ScreenState.code : ScreenState → Nat
  | .parked => 0
  | .queued => 1
  | .starting => 2
  | .washing => 3
  | .rundown => 4
  | .stalled => 5

/-- Cause set mask: INTERVAL bit 0, DIFFERENTIAL bit 1, TIDE bit 2, ORDER bit 3. -/
def CauseSet.code (c : CauseSet) : Nat := bit c.interval + 2 * bit c.differential + 4 * bit c.tide + 8 * bit c.order

def PumpService.code : PumpService → Nat
  | .inService => 0
  | .outOfService => 1

def PumpState.code : PumpState → Nat
  | .stopped => 0
  | .starting => 1
  | .running => 2
  | .stopping => 3
  | .tripped => 4

def StopCause.code : StopCause → Nat
  | .proofFail => 1
  | .proofLost => 2
  | .motorTrip => 3
  | .submergence => 4
  | .held => 5
  | .duty => 6

/-- The last stop cause, absent as 0. -/
def stopCauseCode : Option StopCause → Nat
  | none => 0
  | some c => c.code

def Move.code : Move → Nat
  | .none => 0
  | .start _ => 1
  | .change _ _ _ => 2

def Origin.code : Origin → Nat
  | .reconcile => 0
  | .order => 1

/-! ## Arguments -/

/-- The argument that the entry's word `w` (3 to 15) held at the take (R10, R200). -/
def WorkingCopy.arg (o : WorkingCopy) (w : Nat) : Word := o.args.getD (w - 3) 0

/-- The argument word as an unsigned number. -/
def WorkingCopy.num (o : WorkingCopy) (w : Nat) : Nat := (o.arg w).toNat

/-- The argument word as a signed value (R198). -/
def WorkingCopy.signed (o : WorkingCopy) (w : Nat) : Int := (o.arg w).toInt

end Sys2Proof.Machine
end

