-- ==== Sys2Proof/Machine/Flags.lean ====
section
/-!
DEFINITION. SUMMARY, ENABLE, FAULT and INT (01 section 1.4, R199): the flag positions, setting a flag, the fault record and
its word, the interrupt line.
-/

namespace Sys2Proof.Machine

/-- The position of a flag in SUMMARY and ENABLE (R199). -/
def Flag.position : Flag → Nat
  | .started => 0
  | .orderDone => 1
  | .alarm => 2
  | .sea => 3
  | .tide => 4
  | .screen => 5
  | .pump => 6
  | .timebase => 7
  | .timer => 8
  | .exchange => 9

/-- The flag's position alone set. -/
def Flag.mask (f : Flag) : BitVec 10 := 1#10 <<< f.position

/-- Sets a flag of SUMMARY; one already set stays set (R15). -/
def State.setFlag (f : Flag) (s : State) : State :=
  { s with port := { s.port with summary := s.port.summary ||| f.mask } }

/-- Sets a flag of SUMMARY if the condition holds. -/
def State.setFlagIf (c : Bool) (f : Flag) (s : State) : State := if c then s.setFlag f else s

/-- Whether a flag stands in SUMMARY. -/
def State.flag (s : State) (f : Flag) : Bool := s.port.summary.getLsbD f.position

def FaultKind.code : FaultKind → Nat
  | .none => 0
  | .handIllegal => 1
  | .entryLocked => 2
  | .readOnly => 3

/-- FAULT as the host reads it; of kind NONE it reads 0 (R199). -/
def ExchangeFault.toWord (f : ExchangeFault) : Word :=
  if f.kind = .none then 0 else packed [(14, f.kind.code), (13, bit f.more), (5, f.index.1), (0, f.offset.1)]

/-- Recording a refused write in FAULT: the first is kept, a further one sets the more mark (R18). -/
def ExchangeFault.record (f : ExchangeFault) (kind : FaultKind) (index : Entry) (offset : Fin 32) : ExchangeFault :=
  if f.kind = .none then { kind := kind, more := false, index := index, offset := offset }
  else { f with more := true }

/-- An exchange fault: FAULT records it and SUMMARY.EXCHANGE is set (R18). -/
def State.exchangeFault (kind : FaultKind) (index : Entry) (offset : Fin 32) (s : State) : State :=
  ({ s with port := { s.port with fault := s.port.fault.record kind index offset } }).setFlag .exchange

/-- INT is asserted while a flag position is set both in SUMMARY and in ENABLE (R17). -/
def Port.intAsserted (p : Port) : Bool := p.summary &&& p.enable != 0

/-- The INT line: not driven while the supply is absent (R20), else whether it is asserted (it is active low, R17). -/
def State.intLine (s : State) : Option Bool :=
  match s.phase with
  | .unpowered => none
  | .coldStart => some false
  | .running => some s.port.intAsserted
  | .held => some false

end Sys2Proof.Machine
end

