-- ==== Sys2Proof/Machine/Ops.lean ====
section
/-!
DEFINITION. The named operations over exchange memory, hands, records and the events on their way, and what every order
shares: the take (R10), the completion (R13), the common checks (R12).
-/

namespace Sys2Proof.Machine

/-! ## Exchange memory (R1, log 10) -/

/-- What an unlisted address reads as: the cold start-up sets every word to 0 (R20). -/
def Memory.blank : Word := 0

/-- The word at an address. -/
def Memory.read : List (Nat × Word) → Nat → Word
  | [], _ => Memory.blank
  | (b, v) :: rest, a => if a = b then v else Memory.read rest a

/-- The memory with the word at an address replaced, in canonical form. -/
def Memory.write : List (Nat × Word) → Nat → Word → List (Nat × Word)
  | [], a, w => if w = Memory.blank then [] else [(a, w)]
  | (b, v) :: rest, a, w =>
    if a < b then (if w = Memory.blank then (b, v) :: rest else (a, w) :: (b, v) :: rest)
    else if a = b then (if w = Memory.blank then rest else (a, w) :: rest)
    else (b, v) :: Memory.write rest a w

/-- Whether an address is the hand word of an entry. -/
def isHandAddr (a : Nat) : Bool := a < 1024 && a % 32 == 0

/-- Whether a cell may be listed: in exchange memory, no hand word, and not what an unlisted address reads as. -/
def Memory.cellOk (c : Nat × Word) : Bool := c.1 < 16384 && !isHandAddr c.1 && c.2 != Memory.blank

/-- The canonical form: addresses strictly rising, every cell one that may be listed. -/
def Memory.wf : List (Nat × Word) → Bool
  | [] => true
  | [c] => Memory.cellOk c
  | c :: d :: rest => Memory.cellOk c && c.1 < d.1 && Memory.wf (d :: rest)

/-- The word address of word `o` of entry `e` (01 section 1.1). -/
def entryAddr (e : Entry) (o : Nat) : Nat := 32 * e.1 + o

/-- The entry that a word address of the order table lies in. -/
def entryOf (a : Nat) : Entry := ⟨a / 32 % 32, by omega⟩

/-- The word offset of an address inside its entry. -/
def offsetOf (a : Nat) : Fin 32 := ⟨a % 32, by omega⟩

/-- The first word address of the bulk area (01 section 1.1). -/
def bulkStart : Nat := 0x400

/-- The end of exchange memory. -/
def memEnd : Nat := 16384

/-- The hand of an entry. -/
def State.hand (s : State) (e : Entry) : Hand := sel s.hands e

/-- Sets the hand of an entry. -/
def State.setHand (e : Entry) (h : Hand) (s : State) : State := { s with hands := upd s.hands e h }

/-- A word of exchange memory as it stands, hand words included (R1). -/
def State.memWord (s : State) (a : Nat) : Word :=
  if isHandAddr a then (s.hand (entryOf a)).code else Memory.read s.mem a

/-- Writes a word of exchange memory other than a hand word. -/
def State.writeWord (a : Nat) (w : Word) (s : State) : State := { s with mem := Memory.write s.mem a w }

/-- Writes consecutive words from an address on. -/
def State.writeWords (a : Nat) : List Word → State → State
  | [], s => s
  | w :: ws, s => State.writeWords (a + 1) ws (s.writeWord a w)

/-- Word `o` of entry `e`. -/
def State.entryWord (s : State) (e : Entry) (o : Nat) : Word := s.memWord (entryAddr e o)

/-! ## Records -/

def State.screen (s : State) (n : ScreenNo) : Screen := sel s.screens n
def State.setScreen (n : ScreenNo) (x : Screen) (s : State) : State := { s with screens := upd s.screens n x }
def State.pump (s : State) (p : PumpNo) : Pump := sel s.pumps.records p
def State.setPump (p : PumpNo) (x : Pump) (s : State) : State :=
  { s with pumps := { s.pumps with records := upd s.pumps.records p x } }
def State.timer (s : State) (t : TimerNo) : Timer := sel s.time.timers t
def State.setTimer (t : TimerNo) (x : Timer) (s : State) : State :=
  { s with time := { s.time with timers := upd s.time.timers t x } }
def State.setClock (c : Clock) (s : State) : State := { s with time := { s.time with clock := c } }
def State.setWires (w : Wires) (s : State) : State := { s with wires := w }
def State.setWash (w : Wash) (s : State) : State := { s with wash := w }
def State.setDuty (d : Duty) (s : State) : State := { s with duty := d }
def State.setTide (t : Tide) (s : State) : State := { s with tide := t }

/-- Whether a screen is fitted (R21). -/
def State.screenFitted (s : State) (n : ScreenNo) : Bool := n.1 < s.fittedScreens

/-- Whether a pump is fitted (R21). -/
def State.pumpFitted (s : State) (p : PumpNo) : Bool := p.1 < s.fittedPumps

/-- The screens that are fitted, ascending. -/
def State.fittedScreenList (s : State) : List ScreenNo := indices s.screenFitted

/-- The pumps that are fitted, ascending. -/
def State.fittedPumpList (s : State) : List PumpNo := indices s.pumpFitted

/-- Applies an event's effect while the part runs; in any other phase the event has none (R20, R22). -/
def State.whenRunning (f : State → State) (s : State) : State :=
  match s.phase with
  | .running => f s
  | .unpowered => s
  | .coldStart => s
  | .held => s

/-! ## Completion (R13, R14) -/

/-- The fifteen answer words, those not given being 0. -/
def answerWords (answers : List Word) : List Word := (List.range 15).map fun i => answers.getD i 0

/-- Writes the tag copied at the take, if one was, into word 2. -/
def State.writeTag (e : Entry) (tag : Option Word) (s : State) : State :=
  match tag with
  | some t => s.writeWord (entryAddr e 2) t
  | none => s

/-- A completion: the tag, the result and all fifteen answer words are written, then the hand becomes DONE and ORDER_DONE
is set (R13). A sweep of an entry never taken has no tag to write (R23). -/
def State.complete (e : Entry) (tag : Option Word) (r : OrderResult) (answers : List Word) (s : State) : State :=
  (((s.writeTag e tag).writeWords (entryAddr e 16) (r.code :: answerWords answers)).setHand e .done).setFlag .orderDone

/-! ## The take (R10) -/

/-- What an order's rule gives within the take: the state after it, the result and the answer. -/
abbrev Reply := State × OrderResult × List Word

/-- An order refused: the owning unit's state stays as it stood (R12). -/
def refuse (r : OrderResult) (s : State) : Reply := (s, r, [])

/-- An order done. -/
def reply (answers : List Word) (s : State) : Reply := (s, .ok, answers)

/-- The words of exchange memory from an address on. -/
def State.words (s : State) (a k : Nat) : List Word := (List.range k).map fun i => s.memWord (a + i)

/-- Whether a LOAD_TIDE's payload is copied: the count is 1 to 64 and every word lies in the bulk area (R10). -/
def payloadFits (offset count : Nat) : Bool :=
  1 ≤ count && count ≤ 64 && bulkStart ≤ offset && offset + 4 * count ≤ memEnd

/-- The working copy of an entry as its words stand, with the payload for LOAD_TIDE (R10). -/
def State.copyEntry (s : State) (e : Entry) : WorkingCopy :=
  let kind := s.entryWord e 1
  let offset := (s.entryWord e 3).toNat
  let count := (s.entryWord e 4).toNat
  { entry := e
    kind := kind
    tag := s.entryWord e 2
    args := s.words (entryAddr e 3) 13
    payload :=
      if OrderKind.ofWord kind = some .loadTide ∧ payloadFits offset count then s.words offset (4 * count) else [] }

/-- The take of the head of the intake queue if its kind is `kind`: the index leaves the queue, the hand becomes TAKEN, the
words are copied, and `body` runs within the same event (R10). With no head of that kind no such take comes (log 1). -/
def State.take (kind : Option OrderKind) (body : WorkingCopy → State → State) (s : State) : State :=
  s.whenRunning fun s =>
    match s.intake with
    | [] => s
    | e :: rest =>
      if OrderKind.ofWord (s.entryWord e 1) = kind then
        body (s.copyEntry e) (({ s with intake := rest }).setHand e .taken)
      else s

/-- The end of an immediate order's take: its completion with what its rule gave (R13). -/
def finish (o : WorkingCopy) (r : Reply) : State := r.1.complete o.entry (some o.tag) r.2.1 r.2.2

/-- The take of an immediate order. -/
def State.takeImmediate (kind : OrderKind) (rule : WorkingCopy → State → Reply) (s : State) : State :=
  s.take (some kind) fun o s => finish o (rule o s)

/-! ## Common checks (R12) -/

/-- The screen an argument names: above 5 is BAD_ARGUMENT, not fitted is NOT_FITTED. -/
def forScreen (w : Word) (s : State) (k : ScreenNo → Reply) : Reply :=
  if h : w.toNat < 6 then
    if s.screenFitted ⟨w.toNat, h⟩ then k ⟨w.toNat, h⟩ else refuse .notFitted s
  else refuse .badArgument s

/-- The pump an argument names: above 5 is BAD_ARGUMENT, not fitted is NOT_FITTED. -/
def forPump (w : Word) (s : State) (k : PumpNo → Reply) : Reply :=
  if h : w.toNat < 6 then
    if s.pumpFitted ⟨w.toNat, h⟩ then k ⟨w.toNat, h⟩ else refuse .notFitted s
  else refuse .badArgument s

/-- The record of a table of sixteen that an argument names: above 15 is BAD_ARGUMENT. -/
def forSixteen (w : Word) (s : State) (k : Fin 16 → Reply) : Reply :=
  if h : w.toNat < 16 then k ⟨w.toNat, h⟩ else refuse .badArgument s

end Sys2Proof.Machine
end

