-- ==== Sys2Proof/Machine/Tide.lean ====
section
/-!
DEFINITION. The tide unit (04): editions, loading and swapping, the prediction by the rule of twelfths, the events that
recompute it.
-/

namespace Sys2Proof.Machine

/-! ## Editions -/

/-- The edition of a name. -/
def Tide.edition (t : Tide) : Edition → List TideEvent
  | .a => t.editionA
  | .b => t.editionB

/-- The live edition. -/
def Tide.liveEdition (t : Tide) : List TideEvent := t.edition t.live

/-- The name of the spare edition. -/
def Edition.other : Edition → Edition
  | .a => .b
  | .b => .a

/-- The spare edition. -/
def Tide.spareEdition (t : Tide) : List TideEvent := t.edition t.live.other

/-- The tide unit with an edition replaced. -/
def Tide.setEdition (e : Edition) (events : List TideEvent) (t : Tide) : Tide :=
  match e with
  | .a => { t with editionA := events }
  | .b => { t with editionB := events }

/-! ## The prediction (R75 to R79) -/

/-- The cumulative twelfths at the sixth boundaries (R76). -/
def twelfths : Nat → Int
  | 0 => 0
  | 1 => 1
  | 2 => 3
  | 3 => 6
  | 4 => 9
  | 5 => 11
  | _ => 12

/-- The predicted level between two events (R76). -/
def predict (a b : TideEvent) (now : Nat) : Int :=
  let d := b.time - a.time
  let e := now - a.time
  let k := 6 * e / d
  let r := 6 * e - k * d
  let num := twelfths k * d + (twelfths (k + 1) - twelfths k) * r
  a.height + (b.height - a.height) * num / (12 * d)

/-- The pair of the prediction: consecutive events with now from the first up to, but not at, the second (R75). -/
def pairAt (now : Nat) : List TideEvent → Option (TideEvent × TideEvent)
  | a :: b :: rest => if a.time ≤ now ∧ now < b.time then some (a, b) else pairAt now (b :: rest)
  | [_] => none
  | [] => none

/-- The first event of a kind strictly after now (R77). -/
def nextWater (kind : TideKind) (now : Nat) (events : List TideEvent) : Option (Nat × Int) :=
  (events.find? fun e => e.kind == kind && now < e.time).map fun e => (e.time, e.height)

/-- The short mark: fewer than four events strictly after now (R78). -/
def isShort (now : Nat) (events : List TideEvent) : Bool := (events.filter fun e => now < e.time).length < 4

/-- A recomputation from the copies of now and the mark (R75 to R78). -/
def Tide.recomputed (t : Tide) : Tide :=
  let u := { t with
    nextHigh := nextWater .high t.now t.liveEdition, nextLow := nextWater .low t.now t.liveEdition
    short := isShort t.now t.liveEdition }
  if t.suspect then { u with valid := false }
  else
    match pairAt t.now t.liveEdition with
    | some (a, b) => { u with valid := true, level := predict a b t.now }
    | none => { u with valid := false }

/-- Whether a recomputation sets TIDE (R79). -/
def tideAlert (old new : Tide) : Bool := (old.valid && !new.valid) || (!old.short && new.short)

/-- The recomputation of the tide unit as `t` gives it, TIDE by its changes (R79). -/
def State.recompute (t : Tide) (s : State) : State :=
  { s with tide := t.recomputed }.setFlagIf (tideAlert t t.recomputed) .tide

/-! ## Events (R80, R81, R82) -/

/-- A minute event at the tide unit (R80). -/
def State.minuteEventTide (s : State) : State :=
  s.whenRunning fun s =>
    match s.wires.toTide with
    | .minute m :: rest =>
      ({ s with wires := { s.wires with toTide := rest } }).recompute { s.tide with now := m.count, suspect := m.suspect }
    | _ => s

/-- A time-set event at the tide unit (R81). -/
def State.timeSetEventTide (s : State) : State :=
  s.whenRunning fun s =>
    match s.wires.toTide with
    | .timeSet _ new suspect :: rest =>
      ({ s with wires := { s.wires with toTide := rest } }).recompute { s.tide with now := new, suspect := suspect }
    | _ => s

/-- A suspect-change event at the tide unit (R82). -/
def State.suspectChangeEventTide (s : State) : State :=
  s.whenRunning fun s =>
    match s.wires.toTide with
    | .suspectChange suspect :: rest =>
      ({ s with wires := { s.wires with toTide := rest } }).recompute { s.tide with suspect := suspect }
    | _ => s

/-! ## LOAD_TIDE (R70, R71, R72) -/

/-- An event's four words: instant low and high, height, kind (11 section 11.4). -/
structure RawEvent where
  low : Word
  high : Word
  height : Word
  kind : Word
  deriving DecidableEq, Repr

/-- The instant of an event's two words. -/
def RawEvent.time (r : RawEvent) : Nat := r.low.toNat + 65536 * r.high.toNat

/-- The payload cut into events. -/
def rawEvents : List Word → List RawEvent
  | low :: high :: height :: kind :: rest => { low := low, high := high, height := height, kind := kind } :: rawEvents rest
  | [_, _, _] => []
  | [_, _] => []
  | [_] => []
  | [] => []

/-- The event that the words give, if its kind is one. -/
def RawEvent.event (r : RawEvent) : Option TideEvent :=
  (TideKind.ofWord r.kind).map fun k => { kind := k, time := r.time, height := r.height.toInt }

/-- Checks 3, 4 and 5 of one event: the number of the first that fails, or the event (R71). -/
def checkAlone (r : RawEvent) : Except Nat TideEvent :=
  match r.event with
  | none => .error 3
  | some e =>
    if lastInstant < e.time then .error 4
    else if e.height < -5000 ∨ 20000 < e.height then .error 5
    else .ok e

/-- Whether of two events the HIGH stands above the LOW (R71 check 9). -/
def highAbove (a b : TideEvent) : Bool :=
  match a.kind with
  | .high => b.height < a.height
  | .low => a.height < b.height

/-- Checks 6 to 9 of an event against the one before it (R71). -/
def checkPair (prev e : TideEvent) : Except Nat TideEvent :=
  if e.time ≤ prev.time then .error 6
  else if e.kind = prev.kind then .error 7
  else if e.time < prev.time + 120 ∨ prev.time + 720 < e.time then .error 8
  else if !highAbove prev e then .error 9
  else .ok e

/-- All checks of one event, `prev` being the event before it, if any (R71). -/
def checkEvent (prev : Option TideEvent) (r : RawEvent) : Except Nat TideEvent :=
  match checkAlone r with
  | .error n => .error n
  | .ok e =>
    match prev with
    | none => .ok e
    | some p => checkPair p e

/-- The events checked in index order from `index`: the index and check of the first failure, or the events (R71). -/
def checkEvents (prev : Option TideEvent) (index : Nat) : List RawEvent → Except (Nat × Nat) (List TideEvent)
  | [] => .ok []
  | r :: rest =>
    match checkEvent prev r with
    | .error n => .error (index, n)
    | .ok e =>
      match checkEvents (some e) (index + 1) rest with
      | .error x => .error x
      | .ok es => .ok (e :: es)

/-- A refused LOAD_TIDE: which event (65535 for the arguments) and which check failed (R70, R71). -/
def tideRefusal (index check : Nat) (s : State) : Reply := (s, .badArgument, [word index, word check])

/-- LOAD_TIDE (R70, R71, R72). -/
def loadTideRule (o : WorkingCopy) (s : State) : Reply :=
  if o.num 4 < 1 ∨ 64 < o.num 4 then tideRefusal 65535 1 s
  else if o.num 3 < bulkStart ∨ memEnd < o.num 3 + 4 * o.num 4 then tideRefusal 65535 2 s
  else
    match checkEvents none 0 (rawEvents o.payload) with
    | .error (i, n) => tideRefusal i n s
    | .ok events =>
      reply [word events.length, word s.tide.live.other.code, word s.tide.spareEdition.length]
        (s.setTide (s.tide.setEdition s.tide.live.other events))

/-! ## SWAP_TIDE (R73, R74) -/

/-- Sends the edition-change event (R74). -/
def State.sendEditionChange (s : State) : State :=
  { s with wires := { s.wires with editionChanges := s.wires.editionChanges ++ [s.tide.live] } }

/-- SWAP_TIDE (R73). -/
def swapTideRule (_o : WorkingCopy) (s : State) : Reply :=
  if s.tide.spareEdition.isEmpty then refuse .wrongState s
  else
    let t := s.recompute { s.tide with live := s.tide.live.other }
    reply [word t.tide.live.code, word t.tide.liveEdition.length, word (bit t.tide.valid)] t.sendEditionChange

/-- Whether a swap must wait: the edition-change event of an earlier swap is on its way, and the spare edition could be
swapped. No take changes the live edition between a swap and the re-arm it asks for (R74), so a second one comes only after
that event (log 28). -/
def State.swapWaits (s : State) : Bool := !s.wires.editionChanges.isEmpty && !s.tide.spareEdition.isEmpty

/-- The take of a SWAP_TIDE (R73, R74). -/
def State.takeSwap (s : State) : State := if s.swapWaits then s else s.takeImmediate .swapTide swapTideRule

/-! ## Commands -/

/-- LOAD_TIDE (R70). -/
def execLoadTide (s : State) : Host.Outcome State Fault Refusal := .next (s.takeImmediate .loadTide loadTideRule)

/-- SWAP_TIDE (R73, R74). -/
def execSwapTide (s : State) : Host.Outcome State Fault Refusal := .next s.takeSwap

/-- MINUTE_EVENT_TIDE (R80). -/
def execMinuteEventTide (s : State) : Host.Outcome State Fault Refusal := .next s.minuteEventTide

/-- TIME_SET_EVENT_TIDE (R81). -/
def execTimeSetEventTide (s : State) : Host.Outcome State Fault Refusal := .next s.timeSetEventTide

/-- SUSPECT_CHANGE_EVENT_TIDE (R82). -/
def execSuspectChangeEventTide (s : State) : Host.Outcome State Fault Refusal := .next s.suspectChangeEventTide

end Sys2Proof.Machine
end

