-- ==== Sys2Proof/Machine/Alarm.lean ====
section
/-!
DEFINITION. The alarm unit (05): evaluation of measured alarms, triggers and arming of instant alarms, actions, orders.
-/

namespace Sys2Proof.Machine

/-! ## Actions (R102 to R105) -/

/-- Whether an alarm's DERATE and HOLD_ROTATION are active (R102). -/
def Alarm.active (a : Alarm) : Bool := a.enabled && (a.state == .raised || a.state == .standing)

/-- The lesser of two derate values, absent standing for none. -/
def leastFloor : Option Nat → Option Nat → Option Nat
  | none, y => y
  | some x, none => some x
  | some x, some y => some (min x y)

/-- What an alarm contributes to the derate floor. -/
def Alarm.floorPart (a : Alarm) : Option Nat := if a.active && a.actions.derate then some a.derateValue else none

/-- The derate floor: the least derate value among the alarms with DERATE active (R103). -/
def AlarmUnit.floor (u : AlarmUnit) : Option Nat :=
  (List.finRange 16).foldr (fun i acc => leastFloor (sel u.records i).floorPart acc) none

/-- The hold state: set when an alarm has HOLD_ROTATION active (R103). -/
def AlarmUnit.holdState (u : AlarmUnit) : Bool :=
  (List.finRange 16).any fun i => (sel u.records i).active && (sel u.records i).actions.holdRotation

/-- Sends a wash request with cause TIDE to every fitted screen (R104). -/
def State.sendWashAll (s : State) : State :=
  { s with wires := { s.wires with
      washRequests := s.wires.washRequests ++ s.fittedScreenList.map fun n => (n, .tide) } }

/-- Sends an action-change event with the floor and hold state as they stand (R105). -/
def State.sendActionChange (s : State) : State :=
  { s with wires := { s.wires with actionChanges := s.wires.actionChanges ++ [(s.alarm.floor, s.alarm.holdState)] } }

/-- Sends an action-change event if the floor or the hold state is not what it was (R105). -/
def State.sendActionChangeFrom (old : AlarmUnit) (s : State) : State :=
  if s.alarm.floor = old.floor ∧ s.alarm.holdState = old.holdState then s else s.sendActionChange

/-- What an event makes of one alarm: the record after it, and whether it raised or triggered. -/
structure AlarmStep where
  record : Alarm
  fired : Bool
  deriving DecidableEq, Repr

/-- An alarm that an event leaves without a raise or trigger. -/
def AlarmStep.still (a : Alarm) : AlarmStep := { record := a, fired := false }

/-- Sends WASH_ALL once for each alarm that fired with it, in number order (R104). -/
def State.sendFired (steps : List AlarmStep) (s : State) : State :=
  steps.foldl (fun t x => if x.fired && x.record.actions.washAll then t.sendWashAll else t) s

/-- An event of the alarm unit (R86): every alarm is handled by its own state, ALARM is set if one fired, then the wash
requests and the action-change event are sent. -/
def State.alarmEvent (unit : AlarmUnit) (f : Alarm → AlarmStep) (s : State) : State :=
  let steps := (List.finRange 16).map fun i => f (sel unit.records i)
  let new := { unit with records := tab fun i => (f (sel unit.records i)).record }
  ((({ s with alarm := new }).setFlagIf (steps.any fun x => x.fired) .alarm).sendFired steps).sendActionChangeFrom s.alarm

/-! ## Measured alarms (R87 to R93) -/

/-- Whether a kind raises on a high value (R87). -/
def AlarmKind.high : AlarmKind → Bool
  | .levelHigh => true
  | .surgeHigh => true
  | .riseRate => true
  | .levelLow => false
  | .surgeLow => false
  | .fallRate => false
  | .tideLead => false
  | .clock => false

/-- The raise condition (R87). -/
def Alarm.raiseHolds (a : Alarm) (v : Int) : Bool :=
  if a.kind.high then a.threshold ≤ v else v ≤ a.threshold

/-- The clear condition (R87). -/
def Alarm.clearHolds (a : Alarm) (v : Int) : Bool :=
  if a.kind.high then v < a.threshold - a.hysteresis else a.threshold + a.hysteresis < v

/-- A raise (R90). -/
def Alarm.raise (now : Nat) (a : Alarm) : AlarmStep :=
  { record := { a with state := .raised, count := 0, raised := some now }, fired := true }

/-- An evaluation with an input in QUIET or PENDING, `counted` being the true evaluations with this one (R89). -/
def Alarm.run (now counted : Nat) (v : Int) (a : Alarm) : AlarmStep :=
  if a.raiseHolds v then
    if counted = a.persistence then a.raise now
    else AlarmStep.still { a with state := .pending, count := counted }
  else AlarmStep.still { a with state := .quiet, count := 0 }

/-- An evaluation with an input (R89, R91). -/
def Alarm.evaluate (now : Nat) (v : Int) (a : Alarm) : AlarmStep :=
  match a.state with
  | .quiet => a.run now 1 v
  | .pending => a.run now (a.count + 1) v
  | .raised => AlarmStep.still (if a.clearHolds v then { a with state := .clearedUnack } else a)
  | .standing => AlarmStep.still (if a.clearHolds v then { a with state := .quiet } else a)
  | .clearedUnack => if a.raiseHolds v then a.raise now else AlarmStep.still a

/-- An evaluation with the input lost (R93). -/
def Alarm.lose (a : Alarm) : AlarmStep :=
  match a.state with
  | .pending => AlarmStep.still { a with inputLost := true, state := .quiet, count := 0 }
  | .quiet => AlarmStep.still { a with inputLost := true }
  | .raised => AlarmStep.still { a with inputLost := true }
  | .standing => AlarmStep.still { a with inputLost := true }
  | .clearedUnack => AlarmStep.still { a with inputLost := true }

/-- An evaluation of an enabled measured alarm on its input, if any; the mark is cleared by an input (R88). -/
def Alarm.measure (now : Nat) (input : Option Int) (a : Alarm) : AlarmStep :=
  match input with
  | none => a.lose
  | some v => { a with inputLost := false }.evaluate now v

/-- An alarm at a sea report: the LEVEL kinds take the sea value, the SURGE kinds the sea value less P (R87, R88). -/
def Alarm.seaReport (now : Nat) (level surge : Option Int) (a : Alarm) : AlarmStep :=
  if a.enabled then
    match a.kind with
    | .levelHigh => a.measure now level
    | .levelLow => a.measure now level
    | .surgeHigh => a.measure now surge
    | .surgeLow => a.measure now surge
    | .riseRate => AlarmStep.still a
    | .fallRate => AlarmStep.still a
    | .tideLead => AlarmStep.still a
    | .clock => AlarmStep.still a
  else AlarmStep.still a

/-- An alarm at a rate report (R87, R88). -/
def Alarm.rateReport (now : Nat) (rate : Option Int) (a : Alarm) : AlarmStep :=
  if a.enabled then
    match a.kind with
    | .riseRate => a.measure now rate
    | .fallRate => a.measure now rate
    | .levelHigh => AlarmStep.still a
    | .levelLow => AlarmStep.still a
    | .surgeHigh => AlarmStep.still a
    | .surgeLow => AlarmStep.still a
    | .tideLead => AlarmStep.still a
    | .clock => AlarmStep.still a
  else AlarmStep.still a

/-- The value of a sea report, absent at sea quality LOST (R88). -/
def levelInput (v : Int) (q : SeaQuality) : Option Int := if q = .lost then none else some v

/-- The surge, absent also while the prediction is NONE (R87, R88). -/
def surgeInput (v : Int) (q : SeaQuality) (t : Tide) : Option Int :=
  if q = .lost then none else if t.valid then some (v - t.level) else none

/-- A sea report at the alarm unit (R87, R94). -/
def State.seaReport (s : State) : State :=
  s.whenRunning fun s =>
    match s.wires.seaReports with
    | [] => s
    | (v, q) :: rest =>
      ({ s with wires := { s.wires with seaReports := rest } }).alarmEvent s.alarm fun a =>
        a.seaReport s.alarm.now (levelInput v q) (surgeInput v q s.tide)

/-- A rate report at the alarm unit (R66, R87). -/
def State.rateReport (s : State) : State :=
  s.whenRunning fun s =>
    match s.wires.rateReports with
    | [] => s
    | (v, valid) :: rest =>
      ({ s with wires := { s.wires with rateReports := rest } }).alarmEvent s.alarm fun a =>
        a.rateReport s.alarm.now (if valid then some v else none)

/-! ## Instant alarms (R95 to R101) -/

/-- A trigger (R96). -/
def Alarm.trigger (now : Nat) (a : Alarm) : Alarm := { a with state := .clearedUnack, raised := some now }

/-- Whether a "which" selects a kind of tide event (R97). -/
def Which.selects : Which → TideKind → Bool
  | .high, .high => true
  | .high, .low => false
  | .low, .high => false
  | .low, .low => true
  | .both, .high => true
  | .both, .low => true
  | .unused, .high => false
  | .unused, .low => false

/-- The trigger instants of an alarm that lie strictly after now; one below 0 is never armed (R97). -/
def Alarm.triggers (a : Alarm) (now : Nat) (live : List TideEvent) : List Nat :=
  (live.filter fun e => a.which.selects e.kind && a.lead ≤ e.time && now < e.time - a.lead).map fun e => e.time - a.lead

/-- The least of some instants. -/
def leastInstant (l : List Nat) : Option Nat := l.foldr (fun t acc => leastFloor (some t) acc) none

/-- An alarm made inactive (R97, R100). -/
def Alarm.inactive (a : Alarm) : Alarm := { a with armed := none, inputLost := true }

/-- Arming a TIDE_LEAD alarm (R97). -/
def Alarm.arm (now : Nat) (suspect : Bool) (live : List TideEvent) (a : Alarm) : Alarm :=
  if suspect || live.isEmpty then a.inactive
  else { a with armed := leastInstant (a.triggers now live), inputLost := false }

/-- An alarm at an event that arms every enabled TIDE_LEAD alarm (R99). -/
def Alarm.rearm (now : Nat) (suspect : Bool) (live : List TideEvent) (a : Alarm) : Alarm :=
  if a.enabled && a.kind == .tideLead then a.arm now suspect live else a

/-- A TIDE_LEAD alarm at a minute event (R98): a set mark makes it inactive before any match; an active alarm armed for this
minute triggers and is armed again. -/
def Alarm.leadMinute (m : MinuteEvent) (live : List TideEvent) (a : Alarm) : AlarmStep :=
  if m.suspect then AlarmStep.still a.inactive
  else if !live.isEmpty && a.armed == some m.count then
    { record := (a.trigger m.count).arm m.count false live, fired := true }
  else AlarmStep.still a

/-- Whether a CLOCK alarm's minute is the one that the event carries (R101). -/
def Alarm.clockMatches (m : MinuteEvent) (a : Alarm) : Bool :=
  a.hour == m.hour && a.minute == m.minute &&
    (match a.mode with
     | .weekdays => a.weekdays.getLsbD m.weekday
     | .date => a.day == m.day)

/-- An alarm at a minute event (R98, R101). -/
def Alarm.atMinute (m : MinuteEvent) (live : List TideEvent) (a : Alarm) : AlarmStep :=
  if a.enabled then
    match a.kind with
    | .tideLead => a.leadMinute m live
    | .clock => if a.clockMatches m then { record := a.trigger m.count, fired := true } else AlarmStep.still a
    | .levelHigh => AlarmStep.still a
    | .levelLow => AlarmStep.still a
    | .surgeHigh => AlarmStep.still a
    | .surgeLow => AlarmStep.still a
    | .riseRate => AlarmStep.still a
    | .fallRate => AlarmStep.still a
  else AlarmStep.still a

/-- The alarm unit with its copies of the clock loaded (R95). -/
def AlarmUnit.load (now : Nat) (suspect : Bool) (u : AlarmUnit) : AlarmUnit := { u with now := now, suspect := suspect }

/-- A minute event at the alarm unit (R98, R101). -/
def State.minuteEventAlarm (s : State) : State :=
  s.whenRunning fun s =>
    match s.wires.toAlarm with
    | .minute m :: rest =>
      ({ s with wires := { s.wires with toAlarm := rest } }).alarmEvent (s.alarm.load m.count m.suspect) fun a =>
        a.atMinute m s.tide.liveEdition
    | _ => s

/-- A time-set event at the alarm unit (R99). -/
def State.timeSetEventAlarm (s : State) : State :=
  s.whenRunning fun s =>
    match s.wires.toAlarm with
    | .timeSet _ new suspect :: rest =>
      ({ s with wires := { s.wires with toAlarm := rest } }).alarmEvent (s.alarm.load new suspect) fun a =>
        AlarmStep.still (a.rearm new suspect s.tide.liveEdition)
    | _ => s

/-- A suspect-change event at the alarm unit (R100). -/
def State.suspectChangeEventAlarm (s : State) : State :=
  s.whenRunning fun s =>
    match s.wires.toAlarm with
    | .suspectChange _ :: rest =>
      ({ s with wires := { s.wires with toAlarm := rest } }).alarmEvent (s.alarm.load s.alarm.now true) fun a =>
        AlarmStep.still (if a.enabled && a.kind == AlarmKind.tideLead then a.inactive else a)
    | _ => s

/-- An edition-change event at the alarm unit (R74, R99). -/
def State.editionChangeEvent (s : State) : State :=
  s.whenRunning fun s =>
    match s.wires.editionChanges with
    | [] => s
    | _ :: rest =>
      ({ s with wires := { s.wires with editionChanges := rest } }).alarmEvent s.alarm fun a =>
        AlarmStep.still (a.rearm s.alarm.now s.alarm.suspect s.tide.liveEdition)

/-! ## SET_ALARM (R106, R107) -/

/-- The kinds that watch a value. -/
def AlarmKind.measured : AlarmKind → Bool
  | .levelHigh => true
  | .levelLow => true
  | .surgeHigh => true
  | .surgeLow => true
  | .riseRate => true
  | .fallRate => true
  | .tideLead => false
  | .clock => false

/-- A record of a kind with every field the kind does not use at 0, in QUIET (05 section 5.1, R107). -/
def Alarm.fresh (kind : AlarmKind) (enabled : Bool) (actions : ActionSet) : Alarm :=
  { Alarm.cold with kind := kind, enabled := enabled, actions := actions }

/-- A measured record, if check 5 of R106 passes. -/
def measuredRecord (kind : AlarmKind) (enabled : Bool) (actions : ActionSet) (o : WorkingCopy) : Option Alarm :=
  if o.num 7 ≤ 1000 ∧ 1 ≤ o.num 8 ∧ o.num 8 ≤ 255 ∧ (actions.derate → o.num 10 ≤ 6) then
    some { Alarm.fresh kind enabled actions with
      threshold := o.signed 6, hysteresis := o.num 7, persistence := o.num 8
      derateValue := if actions.derate then o.num 10 else 0 }
  else none

/-- Whether an instant kind's action set passes check 6 of R106. -/
def ActionSet.instantOk (a : ActionSet) : Bool := !a.derate && !a.holdRotation

/-- A TIDE_LEAD record, if checks 6 and 7 of R106 pass. -/
def leadRecord (enabled : Bool) (actions : ActionSet) (o : WorkingCopy) : Option Alarm :=
  if actions.instantOk ∧ 1 ≤ o.num 11 ∧ o.num 11 ≤ 720 then
    (Which.ofWord (o.arg 12)).map fun w => { Alarm.fresh .tideLead enabled actions with lead := o.num 11, which := w }
  else none

/-- A CLOCK record, if checks 6 and 8 of R106 pass. -/
def clockRecord (enabled : Bool) (actions : ActionSet) (o : WorkingCopy) : Option Alarm :=
  if actions.instantOk ∧ o.num 11 ≤ 23 ∧ o.num 12 ≤ 59 then
    let base := { Alarm.fresh .clock enabled actions with hour := o.num 11, minute := o.num 12 }
    match ClockMode.ofWord (o.arg 13) with
    | none => none
    | some .weekdays =>
      if 1 ≤ o.num 14 ∧ o.num 14 ≤ 127 then
        some { base with mode := .weekdays, weekdays := (o.arg 14).setWidth 7 }
      else none
    | some .date => if 1 ≤ o.num 14 ∧ o.num 14 ≤ 31 then some { base with mode := .date, day := o.num 14 } else none
  else none

/-- The record that SET_ALARM's words give, if checks 2 to 8 of R106 pass. -/
def newAlarm (o : WorkingCopy) : Option Alarm :=
  match AlarmKind.ofWord (o.arg 4), markOfWord (o.arg 5), ActionSet.ofWord (o.arg 9) with
  | some kind, some enabled, some actions =>
    if kind.measured then measuredRecord kind enabled actions o
    else if kind = .tideLead then leadRecord enabled actions o
    else clockRecord enabled actions o
  | _, _, _ => none

/-- SET_ALARM (R106, R107). -/
def setAlarmRule (o : WorkingCopy) (s : State) : Reply :=
  forSixteen (o.arg 3) s fun i =>
    match newAlarm o with
    | none => refuse .badArgument s
    | some a =>
      let old := sel s.alarm.records i
      if old.state = .raised then refuse .wrongState s
      else
        reply (word old.state.code :: instantWords old.raised)
          (({ s with alarm := { s.alarm with
              records := upd s.alarm.records i (a.rearm s.alarm.now s.alarm.suspect s.tide.liveEdition) } }).sendActionChangeFrom
            s.alarm)

/-! ## ACK_ALARM (R92, R108) -/

/-- An alarm acknowledged (R92). -/
def Alarm.ack (a : Alarm) : Alarm :=
  match a.state with
  | .raised => { a with state := .standing }
  | .clearedUnack => { a with state := .quiet }
  | .quiet => a
  | .pending => a
  | .standing => a

/-- A mask with the bits of the alarms that satisfy `p`. -/
def alarmMask (p : Fin 16 → Bool) : Word :=
  word ((indices p).foldl (fun acc i => acc + 2 ^ i.1) 0)

/-- ACK_ALARM (R108). -/
def ackAlarmRule (o : WorkingCopy) (s : State) : Reply :=
  let masked (i : Fin 16) : Bool := (o.arg 3).getLsbD i.1
  let stateOf (i : Fin 16) : AlarmState := (sel s.alarm.records i).state
  reply
    [alarmMask fun i => masked i && (stateOf i == .raised || stateOf i == .clearedUnack),
      alarmMask fun i => masked i && stateOf i == .raised]
    { s with alarm := { s.alarm with
        records := tab fun i => if masked i then (sel s.alarm.records i).ack else sel s.alarm.records i } }

/-! ## Release (R111) -/

/-- The alarm unit at the release of RESET_N: copies loaded from the clock, TIDE_LEAD alarms armed from them (R111). -/
def AlarmUnit.release (now : Nat) (suspect : Bool) (live : List TideEvent) (u : AlarmUnit) : AlarmUnit :=
  { records := tab fun i => (sel u.records i).rearm now suspect live, now := now, suspect := suspect }

/-! ## Commands -/

/-- SET_ALARM (R106, R107). -/
def execSetAlarm (s : State) : Host.Outcome State Fault Refusal := .next (s.takeImmediate .setAlarm setAlarmRule)

/-- ACK_ALARM (R108). -/
def execAckAlarm (s : State) : Host.Outcome State Fault Refusal := .next (s.takeImmediate .ackAlarm ackAlarmRule)

/-- SEA_REPORT (R87). -/
def execSeaReport (s : State) : Host.Outcome State Fault Refusal := .next s.seaReport

/-- RATE_REPORT (R66, R87). -/
def execRateReport (s : State) : Host.Outcome State Fault Refusal := .next s.rateReport

/-- MINUTE_EVENT_ALARM (R98, R101). -/
def execMinuteEventAlarm (s : State) : Host.Outcome State Fault Refusal := .next s.minuteEventAlarm

/-- TIME_SET_EVENT_ALARM (R99). -/
def execTimeSetEventAlarm (s : State) : Host.Outcome State Fault Refusal := .next s.timeSetEventAlarm

/-- SUSPECT_CHANGE_EVENT_ALARM (R100). -/
def execSuspectChangeEventAlarm (s : State) : Host.Outcome State Fault Refusal := .next s.suspectChangeEventAlarm

/-- EDITION_CHANGE_EVENT (R74, R99). -/
def execEditionChangeEvent (s : State) : Host.Outcome State Fault Refusal := .next s.editionChangeEvent

end Sys2Proof.Machine
end

