-- ==== Sys2Proof/Machine/Port.lean ====
section
/-!
DEFINITION. The port (01 sections 1.1, 1.2, 1.4; R199): the hand check, host writes of memory words and registers, host
reads, and the commands ARRIVAL to READ_ONLY.
-/

namespace Sys2Proof.Machine

/-! ## The hand check (R4) -/

/-- The outcomes of a host write to a hand word (R4). -/
inductive HandOutcome where
  | noEffect
  | arrival
  | withdrawal
  | discarded
  | givenBack
  | cancelRequest
  | illegal
  deriving DecidableEq, Repr

/-- The table of R4: the hand held and the hand written. -/
def handTable : Hand → Hand → HandOutcome
  | .free, .free => .noEffect
  | .free, .posted => .arrival
  | .free, .taken => .illegal
  | .free, .done => .illegal
  | .free, .cancel => .illegal
  | .posted, .free => .withdrawal
  | .posted, .posted => .noEffect
  | .posted, .taken => .illegal
  | .posted, .done => .illegal
  | .posted, .cancel => .discarded
  | .taken, .free => .discarded
  | .taken, .posted => .illegal
  | .taken, .taken => .noEffect
  | .taken, .done => .illegal
  | .taken, .cancel => .cancelRequest
  | .done, .free => .givenBack
  | .done, .posted => .illegal
  | .done, .taken => .illegal
  | .done, .done => .noEffect
  | .done, .cancel => .discarded
  | .cancel, .free => .discarded
  | .cancel, .posted => .illegal
  | .cancel, .taken => .illegal
  | .cancel, .done => .illegal
  | .cancel, .cancel => .noEffect

/-- The outcome of writing a word onto a hand: a value from 5 on is HAND_ILLEGAL on any hand (R4). -/
def handCheck (held : Hand) (written : Word) : HandOutcome :=
  match Hand.ofWord written with
  | some h => handTable held h
  | none => .illegal

/-- Whether a screen's wash order is the entry. -/
def Screen.holds (x : Screen) (e : Entry) : Bool :=
  match x.washOrder with
  | some o => o.entry == e
  | none => false

/-- Whether the duty unit's change order is the entry. -/
def Duty.holds (d : Duty) (e : Entry) : Bool :=
  match d.changeOrder with
  | some o => o.entry == e
  | none => false

/-- Passes a cancel request to the unit that holds the entry: the screen whose wash order it is, or the duty unit (R8). -/
def State.sendCancel (e : Entry) (s : State) : State :=
  { s with wires := { s.wires with
      washCancels := s.wires.washCancels ++ (indices fun n => (s.screen n).holds e).map (fun n => (n, e))
      changeCancels := s.wires.changeCancels ++ (if s.duty.holds e then [e] else []) } }

/-- An arrival (R5). -/
def State.arrive (e : Entry) (s : State) : State := { s with intake := s.intake ++ [e] }.setHand e .posted

/-- A withdrawal (R6). -/
def State.withdraw (e : Entry) (s : State) : State :=
  { s with intake := s.intake.filter (fun x => x != e) }.setHand e .free

/-- A host write to a hand word (R4 to R8). -/
def State.writeHand (e : Entry) (w : Word) (s : State) : State :=
  match handCheck (s.hand e) w with
  | .noEffect => s
  | .arrival => s.arrive e
  | .withdrawal => s.withdraw e
  | .discarded => s
  | .givenBack => s.setHand e .free
  | .cancelRequest => (s.setHand e .cancel).sendCancel e
  | .illegal => s.exchangeFault .handIllegal e 0

/-! ## Host writes -/

/-- A host write to a word of an entry other than its hand (R3). -/
def State.writeEntryWord (e : Entry) (o : Fin 32) (w : Word) (s : State) : State :=
  match s.hand e with
  | .free => s.writeWord (entryAddr e o.1) w
  | .posted => s.writeWord (entryAddr e o.1) w
  | .done => s.writeWord (entryAddr e o.1) w
  | .taken => s.exchangeFault .entryLocked e o
  | .cancel => s.exchangeFault .entryLocked e o

/-- A host write to a word of exchange memory, by the area and word it lands on (R1). While the part does not run it is
discarded without fault (R20, R22). -/
def State.hostWrite (a : Addr) (w : Word) (s : State) : State :=
  s.whenRunning fun s =>
    if bulkStart ≤ a.toNat then s.writeWord a.toNat w
    else if isHandAddr a.toNat then s.writeHand (entryOf a.toNat) w
    else s.writeEntryWord (entryOf a.toNat) (offsetOf a.toNat) w

/-- The address of a word of an entry. -/
def entryWordAddr (e : Entry) (o : Fin 32) : Addr := BitVec.ofNat 14 (entryAddr e o.1)

/-- A host write to SUMMARY: each flag whose position is written 0 is cleared; positions beyond the ten are ignored (R16). -/
def State.writeSummary (w : Word) (s : State) : State :=
  s.whenRunning fun s => { s with port := { s.port with summary := s.port.summary &&& w.setWidth 10 } }

/-- A host write to ENABLE: the ten positions are stored (R2, R17). -/
def State.writeEnable (w : Word) (s : State) : State :=
  s.whenRunning fun s => { s with port := { s.port with enable := w.setWidth 10 } }

/-- A host write to FAULT: 0 clears it, any other value is not stored and is no fault (R19). -/
def State.writeFault (w : Word) (s : State) : State :=
  s.whenRunning fun s => if w = 0 then { s with port := { s.port with fault := ExchangeFault.clear } } else s

/-- A host write to PORT_ID: not stored, exchange fault READ_ONLY with index and offset 0 (R2, R18). -/
def State.writePortId (_w : Word) (s : State) : State := s.whenRunning fun s => s.exchangeFault .readOnly 0 0

/-! ## Host reads -/

/-- Family code, model and stepping of PORT_ID (R199). -/
def familyCode : Nat := 10
def modelNumber : Nat := 340
def stepping : Nat := 1

/-- PORT_ID: family code in bits 15 to 12, model in 11 to 3, stepping in 2 to 0 (R199). -/
def portId : Word := packed [(12, familyCode), (3, modelNumber), (0, stepping)]

/-- The register that the address selects, by its two low bits (R199). -/
def State.register (s : State) (a : Addr) : Word :=
  match (a.toNat % 4) with
  | 0 => s.port.summary.setWidth 16
  | 1 => s.port.enable.setWidth 16
  | 2 => s.port.fault.toWord
  | _ => portId

/-- What a host read returns (R1, R2): nothing while the supply is absent, 0 in the cold start-up and while held (R20,
R22). A read changes no state. -/
def State.hostRead (s : State) (regSelect : Bool) (a : Addr) : Option Word :=
  match s.phase with
  | .unpowered => none
  | .coldStart => some 0
  | .held => some 0
  | .running => some (if regSelect then s.register a else s.memWord a.toNat)

/-- The command that a bus write cycle is: with register-select, the register that the low two address bits select; else the
hand, the entry word or the bulk word at the address (R1, R2, R199). -/
def busWrite (regSelect : Bool) (a : Addr) (w : Word) : Instr :=
  if regSelect then
    match (a.toNat % 4) with
    | 0 => .summaryWrite w
    | 1 => .enableWrite w
    | 2 => .faultWrite w
    | _ => .readOnly w
  else if bulkStart ≤ a.toNat then .bulkWrite a w
  else if isHandAddr a.toNat then
    match Hand.ofWord w with
    | some .posted => .arrival (entryOf a.toNat)
    | some .free => .withdrawal (entryOf a.toNat)
    | some .cancel => .cancelRequest (entryOf a.toNat)
    | some .taken => .handIllegal (entryOf a.toNat) w
    | some .done => .handIllegal (entryOf a.toNat) w
    | none => .handIllegal (entryOf a.toNat) w
  else .entryWordWrite (entryOf a.toNat) (offsetOf a.toNat) w

/-! ## Commands -/

/-- ARRIVAL: the host writes POSTED onto the hand (R5); what comes of it is the hand check's (R4). -/
def execArrival (e : Entry) (s : State) : Host.Outcome State Fault Refusal :=
  .next (s.hostWrite (entryWordAddr e 0) Hand.posted.code)

/-- WITHDRAWAL: the host writes FREE onto the hand of an entry it posted (R6); on a DONE hand that is a give-back. -/
def execWithdrawal (e : Entry) (s : State) : Host.Outcome State Fault Refusal :=
  .next (s.hostWrite (entryWordAddr e 0) Hand.free.code)

/-- GIVE_BACK: the host writes FREE onto a DONE hand (R7). -/
def execGiveBack (e : Entry) (s : State) : Host.Outcome State Fault Refusal :=
  .next (s.hostWrite (entryWordAddr e 0) Hand.free.code)

/-- CANCEL_REQUEST: the host writes CANCEL onto a TAKEN hand (R8). -/
def execCancelRequest (e : Entry) (s : State) : Host.Outcome State Fault Refusal :=
  .next (s.hostWrite (entryWordAddr e 0) Hand.cancel.code)

/-- HAND_ILLEGAL: the host writes any value onto a hand (R4). -/
def execHandIllegal (e : Entry) (value : Word) (s : State) : Host.Outcome State Fault Refusal :=
  .next (s.hostWrite (entryWordAddr e 0) value)

/-- ENTRY_WORD_WRITE (R3). -/
def execEntryWordWrite (e : Entry) (offset : Fin 32) (value : Word) (s : State) : Host.Outcome State Fault Refusal :=
  .next (s.hostWrite (entryWordAddr e offset) value)

/-- BULK_WRITE (R1). -/
def execBulkWrite (a : Addr) (value : Word) (s : State) : Host.Outcome State Fault Refusal :=
  .next (s.hostWrite a value)

/-- SUMMARY_WRITE (R16). -/
def execSummaryWrite (value : Word) (s : State) : Host.Outcome State Fault Refusal := .next (s.writeSummary value)

/-- ENABLE_WRITE (R17). -/
def execEnableWrite (value : Word) (s : State) : Host.Outcome State Fault Refusal := .next (s.writeEnable value)

/-- FAULT_WRITE (R19). -/
def execFaultWrite (value : Word) (s : State) : Host.Outcome State Fault Refusal := .next (s.writeFault value)

/-- READ_ONLY: the host writes PORT_ID (R2). -/
def execReadOnly (value : Word) (s : State) : Host.Outcome State Fault Refusal := .next (s.writePortId value)

end Sys2Proof.Machine
end

