-- ==== Sys2Proof/Machine/Queue.lean ====
section
/-!
DEFINITION. The wash queue and the slots (07 sections 7.1, 7.3): joining, leaving, promotion, re-entry, and the release of a
slot, as the screen events that make them call them.
-/

namespace Sys2Proof.Machine

/-- The class of a screen that joins: URGENT if its choked mark is set (R117, R141). -/
def Screen.washClass (x : Screen) : WashClass := if x.choked then .urgent else .routine

/-- The entries of a class, in queue order. -/
def classOf (c : WashClass) (q : List (ScreenNo × WashClass)) : List (ScreenNo × WashClass) := q.filter fun e => e.2 == c

/-- A join at the tail of a class, URGENT ahead of ROUTINE (R141). -/
def joinTail (n : ScreenNo) (c : WashClass) (q : List (ScreenNo × WashClass)) : List (ScreenNo × WashClass) :=
  match c with
  | .urgent => classOf .urgent q ++ (n, .urgent) :: classOf .routine q
  | .routine => q ++ [(n, .routine)]

/-- An entry removed from wherever it stands (R141). -/
def leave (n : ScreenNo) (q : List (ScreenNo × WashClass)) : List (ScreenNo × WashClass) := q.filter fun e => e.1 != n

/-- Promotion of a ROUTINE entry to the tail of URGENT; an URGENT entry keeps its place (R117, R127). -/
def promote (n : ScreenNo) (q : List (ScreenNo × WashClass)) : List (ScreenNo × WashClass) :=
  if (n, WashClass.routine) ∈ q then joinTail n .urgent (leave n q) else q

/-- Re-entry of suspended screens, each given with its class in ascending number, at the heads of their classes (R142). -/
def reenter (suspended q : List (ScreenNo × WashClass)) : List (ScreenNo × WashClass) :=
  classOf .urgent suspended ++ classOf .urgent q ++ (classOf .routine suspended ++ classOf .routine q)

/-- The queue changed. -/
def State.onQueue (f : List (ScreenNo × WashClass) → List (ScreenNo × WashClass)) (s : State) : State :=
  s.setWash { s.wash with queue := f s.wash.queue }

/-- A slot released (R137). -/
def State.releaseSlot (s : State) : State := s.setWash { s.wash with slots := s.wash.slots - 1 }

end Sys2Proof.Machine
end

