-- ==== Sys2Proof/Machine/Screen.lean ====
section
/-!
DEFINITION. The screen unit (06): outputs, wash requests, the wash cycle, stall, differential and choke, screen orders.
-/

namespace Sys2Proof.Machine

/-! ## Outputs and what a state holds (R114, R137) -/

/-- Whether a screen holds a wash slot: STARTING or WASHING (R137). -/
def ScreenState.holdsSlot : ScreenState → Bool
  | .starting => true
  | .washing => true
  | .parked => false
  | .queued => false
  | .rundown => false
  | .stalled => false

/-- DRIVE as the state gives it (R114). -/
def ScreenState.drive : ScreenState → Bool
  | .starting => true
  | .washing => true
  | .rundown => true
  | .parked => false
  | .queued => false
  | .stalled => false

/-- Whether the part drives its field outputs at all: not while the supply is absent (R20). -/
def Phase.powered : Phase → Bool
  | .unpowered => false
  | .coldStart => true
  | .running => true
  | .held => true

/-- The DRIVE, FAST and SPRAY lines of a screen (R113, R114). -/
def State.driveLine (s : State) (n : ScreenNo) : Bool :=
  s.phase.powered && s.screenFitted n && (s.screen n).state.drive
def State.fastLine (s : State) (n : ScreenNo) : Bool := s.phase.powered && s.screenFitted n && (s.screen n).fast
def State.sprayLine (s : State) (n : ScreenNo) : Bool :=
  s.phase.powered && s.screenFitted n && (s.screen n).state.holdsSlot

/-! ## Causes -/

/-- A cause added to a set. -/
def CauseSet.add (c : Cause) (x : CauseSet) : CauseSet :=
  match c with
  | .interval => { x with interval := true }
  | .differential => { x with differential := true }
  | .tide => { x with tide := true }
  | .order => { x with order := true }

/-! ## Wash orders -/

/-- The completion of the wash order that the screen `x` held, if any, with turns done and the cause set (R121, R124, R130,
R131). -/
def State.completeWash (x : Screen) (r : OrderResult) (s : State) : State :=
  match x.washOrder with
  | none => s
  | some o => s.complete o.entry (some o.tag) r [word x.turnsDone, word x.causes.code]

/-! ## Wash requests (R116, R117) -/

/-- A screen that enters QUEUED for a new wash (R116, R122). -/
def Screen.queued (causes : CauseSet) (turns : Nat) (x : Screen) : Screen :=
  { x with state := .queued, causes := causes, turnsDone := 0, turnsWanted := turns }

/-- A screen's record replaced, and its join at the tail of its class (R117). -/
def State.joinScreen (n : ScreenNo) (x : Screen) (s : State) : State :=
  (s.setScreen n x).onQueue (joinTail n x.washClass)

/-- A wash request that reaches a screen (R116). -/
def State.request (n : ScreenNo) (c : Cause) (s : State) : State :=
  let x := s.screen n
  match x.service with
  | .held => s
  | .inService =>
    match x.state with
    | .stalled => s
    | .parked => s.joinScreen n (x.queued (CauseSet.empty.add c) x.configTurns)
    | .queued => s.setScreen n { x with causes := x.causes.add c }
    | .starting => s.setScreen n { x with causes := x.causes.add c }
    | .washing => s.setScreen n { x with causes := x.causes.add c }
    | .rundown => s.setScreen n { x with stored := x.stored.add c, again := true }

/-- The oldest wash request on its way to a screen reaches it (R116); none reaches a screen that is not fitted (R113). -/
def State.washRequest (n : ScreenNo) (s : State) : State :=
  s.whenRunning fun s =>
    match takeFirst (fun m => m.1 == n) s.wires.washRequests with
    | none => s
    | some ((_, c), rest) =>
      let t := { s with wires := { s.wires with washRequests := rest } }
      if s.screenFitted n then t.request n c else t

/-! ## The ends of a wash (R121, R124) -/

/-- A screen that enters RUNDOWN (R121). -/
def Screen.rundown (x : Screen) : Screen :=
  { x with state := .rundown, turnWatch := none, rundownClock := some x.rundownTime }

/-- A wash end: the screen enters RUNDOWN and releases its slot (R121). -/
def State.endWash (n : ScreenNo) (s : State) : State := (s.setScreen n (s.screen n).rundown).releaseSlot

/-- Sends an interval restart for the screen to the timer bank (R46). -/
def State.sendIntervalRestart (n : ScreenNo) (s : State) : State :=
  { s with wires := { s.wires with intervalRestarts := s.wires.intervalRestarts ++ [n] } }

/-- A counted wash end (R121). -/
def State.countedEnd (n : ScreenNo) (s : State) : State :=
  let x := s.screen n
  let s1 := s.endWash n
  let s2 := s1.setScreen n { s1.screen n with
    washCount := min (x.washCount + 1) 65535, lastWashEnd := some s.time.clock.minuteCount, washOrder := none }
  (if x.intervalRestart then s2.sendIntervalRestart n else s2).completeWash x .ok

/-- A screen that enters STALLED (R124). -/
def Screen.stalled (x : Screen) : Screen :=
  { x with
    state := .stalled, fast := false, turnWatch := none, rundownClock := none, again := false
    stored := CauseSet.empty, washOrder := none }

/-- Entry to STALLED (R124). -/
def State.stallScreen (n : ScreenNo) (s : State) : State :=
  let x := s.screen n
  let s1 := s.setScreen n x.stalled
  ((if x.state.holdsSlot then s1.releaseSlot else s1).completeWash x .failed).setFlag .screen

/-! ## Turns (R119, R120) -/

/-- Whether completed turns extend the wash (R120). The last report counts by the start threshold it found; a threshold
written since takes effect at the next report (R134, log 27). -/
def Screen.runsOn (x : Screen) : Bool := x.causes.differential && x.dpReached && x.turnsWanted < 8

/-- The screen with a turn counted and its watch restarted (R119). -/
def Screen.countTurn (x : Screen) : Screen := { x with turnsDone := x.turnsDone + 1, turnWatch := some x.turnTimeout }

/-- A TURN edge (R119, R120). -/
def State.turn (n : ScreenNo) (s : State) : State :=
  let x := s.screen n
  match x.state with
  | .starting => s.setScreen n { x with state := .washing, turnWatch := some x.turnTimeout }
  | .washing =>
    let y := x.countTurn
    if y.turnsDone = y.turnsWanted then
      if y.runsOn then s.setScreen n { y with turnsWanted := y.turnsWanted + 1 }
      else (s.setScreen n y).countedEnd n
    else s.setScreen n y
  | .parked => s
  | .queued => s
  | .rundown => s
  | .stalled => s

/-- The qualified level of a field line changes: `store` records it, and a change from inactive to active while running is an
event (R115, log 15). Lines are not read before the end of the cold start-up, nor on unfitted records. -/
def State.line (fitted old level : Bool) (store event : State → State) (s : State) : State :=
  if fitted then
    match s.phase with
    | .unpowered => s
    | .coldStart => s
    | .held => store s
    | .running => if level && !old then event (store s) else store s
  else s

/-- TURN's qualified level becomes `level` (R115, R119). -/
def State.turnEdge (n : ScreenNo) (level : Bool) (s : State) : State :=
  s.line (s.screenFitted n) (s.screen n).turn level
    (fun t => t.setScreen n { t.screen n with turn := level }) (fun t => t.turn n)

/-- An overload event (R123). -/
def State.overload (n : ScreenNo) (s : State) : State :=
  if (s.screen n).state.drive then s.stallScreen n else s

/-- OVERLOAD's qualified level becomes `level` (R115, R123). -/
def State.overloadEvent (n : ScreenNo) (level : Bool) (s : State) : State :=
  s.line (s.screenFitted n) (s.screen n).overload level
    (fun t => t.setScreen n { t.screen n with overload := level }) (fun t => t.overload n)

/-- An expiry of the turn watch, due when no second is left (R124, log 7): an edge that came first has restarted the watch,
which then does not expire (R119). -/
def State.turnWatchExpiry (n : ScreenNo) (s : State) : State :=
  s.whenRunning fun s =>
    if (s.screen n).state.holdsSlot && (s.screen n).turnWatch == some 0 then s.stallScreen n else s

/-- The turns of a wash order, 0 if there is none. -/
def Screen.orderTurns (x : Screen) : Nat :=
  match x.washOrder with
  | none => 0
  | some o => o.turns

/-- The end of a rundown (R122). -/
def State.endRundown (n : ScreenNo) (s : State) : State :=
  let x := s.screen n
  let y := { x with fast := false, rundownClock := none, again := false, stored := CauseSet.empty }
  if x.again then s.joinScreen n (y.queued x.stored (max x.configTurns x.orderTurns))
  else s.setScreen n { y with state := .parked, causes := CauseSet.empty }

/-- An expiry of the rundown clock, due when no second is left (R122, log 7). -/
def State.rundownExpiry (n : ScreenNo) (s : State) : State :=
  s.whenRunning fun s =>
    if (s.screen n).state == .rundown && (s.screen n).rundownClock == some 0 then s.endRundown n else s

/-! ## Choke (R126, R127, R128) -/

/-- The choke state: a fitted screen in service carries the choked mark (R128). -/
def State.chokeState (s : State) : Bool :=
  s.fittedScreenList.any fun n => (s.screen n).service == .inService && (s.screen n).choked

/-- Sends a choke-change event with a choke state (R128). -/
def State.sendChoke (c : Bool) (s : State) : State :=
  { s with wires := { s.wires with chokeChanges := s.wires.chokeChanges ++ [c] } }

/-- Sends a choke-change event if the choke state is not what it was (R128). -/
def State.sendChokeFrom (old : Bool) (s : State) : State :=
  if s.chokeState = old then s else s.sendChoke s.chokeState

/-- The choked mark set on a screen where it was clear (R127). -/
def State.choke (n : ScreenNo) (s : State) : State :=
  let x := s.screen n
  ((s.setScreen n { x with choked := true, fast := x.fast || x.state.holdsSlot }).onQueue (promote n)).setFlag .screen

/-- Step 1 of R126: the choked mark. -/
def State.markChoke (n : ScreenNo) (d : Differential) (s : State) : State :=
  let x := s.screen n
  if d.valid then
    if x.chokeThreshold ≤ d.value && x.service == .inService then (if x.choked then s else s.choke n)
    else if d.value < x.startThreshold then s.setScreen n { x with choked := false }
    else s
  else s

/-- Step 2 of R126: the wash request. -/
def State.differentialRequest (n : ScreenNo) (d : Differential) (s : State) : State :=
  if d.valid && (s.screen n).startThreshold ≤ d.value then s.request n .differential else s

/-- The screen keeps the dP of the report, and whether it reaches the start threshold as it stands now (R126, R120). -/
def Screen.keepDp (d : Differential) (x : Screen) : Screen :=
  { x with lastDp := d, dpReached := d.valid && x.startThreshold ≤ d.value }

/-- A screen's part of a differential report (R126); none is for a screen that is not fitted (R113). -/
def State.differentialAt (n : ScreenNo) (d : Differential) (s : State) : State :=
  if s.screenFitted n then
    ((s.setScreen n ((s.screen n).keepDp d)).markChoke n d).differentialRequest n d
  else s

/-- A differential report at the screen unit: the screens in ascending number, then any choke-change event (R126, R128). -/
def State.differentialReport (s : State) : State :=
  s.whenRunning fun s =>
    match s.wires.diffReports with
    | [] => s
    | report :: rest =>
      (report.foldl (fun (t : State) m => t.differentialAt m.1 m.2) { s with wires := { s.wires with diffReports := rest } }).sendChokeFrom
        s.chokeState

/-! ## WASH and its cancel (R129, R130) -/

/-- The screen's wanted turns raised to an order's, for a wash that is queued or running (R129). -/
def State.raiseTurns (n : ScreenNo) (turns : Nat) (s : State) : State :=
  let x := s.screen n
  if x.state = .queued ∨ x.state.holdsSlot then s.setScreen n { x with turnsWanted := max x.turnsWanted turns } else s

/-- An accepted WASH: the entry becomes the screen's wash order and its hand stays TAKEN (R129). -/
def State.acceptWash (o : WorkingCopy) (n : ScreenNo) (s : State) : State :=
  let s1 := s.setScreen n { s.screen n with washOrder := some { entry := o.entry, turns := o.num 4, tag := o.tag } }
  (s1.request n .order).raiseTurns n (o.num 4)

/-- WASH's own checks: turns, service and state, the order held (R129). -/
def washRefusal (turns : Nat) (x : Screen) : Option OrderResult :=
  if turns < 1 ∨ 8 < turns then some .badArgument
  else if x.service = .held ∨ x.state = .stalled then some .wrongState
  else if x.washOrder.isSome then some .busy
  else none

/-- The common check of a screen number: the refusal, or the screen (R12). -/
def screenArg (w : Word) (s : State) : Except OrderResult ScreenNo :=
  if h : w.toNat < 6 then
    if s.screenFitted ⟨w.toNat, h⟩ then .ok ⟨w.toNat, h⟩ else .error .notFitted
  else .error .badArgument

/-- WASH at its take (R129). -/
def washRule (o : WorkingCopy) (s : State) : State :=
  match screenArg (o.arg 3) s with
  | .error r => finish o (refuse r s)
  | .ok n =>
    match washRefusal (o.num 4) (s.screen n) with
    | some r => finish o (refuse r s)
    | none => s.acceptWash o n

/-- A QUEUED screen that enters PARKED out of turn: out of the queue, causes emptied, turns done 0 (R130, R131). -/
def State.parkQueued (n : ScreenNo) (s : State) : State :=
  (s.setScreen n { s.screen n with state := .parked, causes := CauseSet.empty, turnsDone := 0 }).onQueue (leave n)

/-- The reference to the wash order dropped. -/
def State.dropWash (n : ScreenNo) (s : State) : State := s.setScreen n { s.screen n with washOrder := none }

/-- The again mark and the stored causes dropped (R130, R131). -/
def State.dropAgain (n : ScreenNo) (s : State) : State :=
  s.setScreen n { s.screen n with again := false, stored := CauseSet.empty }

/-- The cancel of the wash order that the screen holds (R130; log 19 for the answer). -/
def State.cancelWash (n : ScreenNo) (s : State) : State :=
  let x := s.screen n
  match x.state with
  | .queued => ((s.parkQueued n).dropWash n).completeWash x .cancelled
  | .starting => ((s.endWash n).dropWash n).completeWash x .cancelled
  | .washing => ((s.endWash n).dropWash n).completeWash x .cancelled
  | .rundown => ((s.dropAgain n).dropWash n).completeWash x .cancelled
  | .parked => s
  | .stalled => s

/-- A cancel request that reaches a screen; one for an entry it does not hold is discarded (R8, R130). -/
def State.washCancel (n : ScreenNo) (s : State) : State :=
  s.whenRunning fun s =>
    match takeFirst (fun m => m.1 == n) s.wires.washCancels with
    | none => s
    | some ((_, e), rest) =>
      let t := { s with wires := { s.wires with washCancels := rest } }
      if (s.screen n).holds e then t.cancelWash n else t

/-! ## HOLD_SCREEN, RELEASE_SCREEN, RESET_SCREEN, SET_SCREEN -/

/-- What HOLD_SCREEN does to the wash of the screen, by its state (R131). -/
def State.holdWash (n : ScreenNo) (s : State) : State :=
  match (s.screen n).state with
  | .queued => s.parkQueued n
  | .starting => s.endWash n
  | .washing => s.endWash n
  | .parked => s
  | .rundown => s
  | .stalled => s

/-- HOLD_SCREEN (R131; log 19 for the order's answer). -/
def holdScreenRule (o : WorkingCopy) (s : State) : Reply :=
  forScreen (o.arg 3) s fun n =>
    let x := s.screen n
    let s1 := (s.holdWash n).dropAgain n
    let s2 := s1.setScreen n { s1.screen n with service := .held, choked := false, washOrder := none }
    reply [word x.state.code] ((s2.completeWash x .overtaken).sendChokeFrom s.chokeState)

/-- RELEASE_SCREEN (R132). -/
def releaseScreenRule (o : WorkingCopy) (s : State) : Reply :=
  forScreen (o.arg 3) s fun n =>
    reply [word (s.screen n).service.code] (s.setScreen n { s.screen n with service := .inService })

/-- RESET_SCREEN (R133). -/
def resetScreenRule (o : WorkingCopy) (s : State) : Reply :=
  forScreen (o.arg 3) s fun n =>
    let x := s.screen n
    if x.state ≠ .stalled ∨ x.overload then refuse .wrongState s
    else
      reply [] (s.setScreen n { x with
        state := .parked, causes := CauseSet.empty, turnsDone := 0, turnsWanted := x.configTurns })

/-- Checks 1 to 5 of R134. -/
def screenArgsOk (o : WorkingCopy) : Bool :=
  1 ≤ o.num 4 && o.num 4 ≤ 8 && 10 ≤ o.num 5 && o.num 5 ≤ 5000 && o.num 5 < o.num 6 && o.num 6 ≤ 10000 &&
    30 ≤ o.num 7 && o.num 7 ≤ 900 && 10 ≤ o.num 8 && o.num 8 ≤ 300

/-- SET_SCREEN (R134). -/
def setScreenRule (o : WorkingCopy) (s : State) : Reply :=
  forScreen (o.arg 3) s fun n =>
    match markOfWord (o.arg 9) with
    | none => refuse .badArgument s
    | some restart =>
      if screenArgsOk o then
        reply [] (s.setScreen n { s.screen n with
          configTurns := o.num 4, startThreshold := o.num 5, chokeThreshold := o.num 6, turnTimeout := o.num 7
          rundownTime := o.num 8, intervalRestart := restart })
      else refuse .badArgument s

/-! ## Reset (R136) -/

/-- A screen at the fall of RESET_N (R136). -/
def Screen.fall (x : Screen) : Screen :=
  { x with
    state := .parked, fast := false, turnWatch := none, rundownClock := none, causes := CauseSet.empty
    stored := CauseSet.empty, turnsDone := 0, turnsWanted := x.configTurns, choked := false, again := false
    lastDp := { x.lastDp with valid := false }, dpReached := false }

/-! ## Commands -/

/-- WASH (R129). -/
def execWash (s : State) : Host.Outcome State Fault Refusal := .next (s.take (some .wash) washRule)

/-- HOLD_SCREEN (R131). -/
def execHoldScreen (s : State) : Host.Outcome State Fault Refusal := .next (s.takeImmediate .holdScreen holdScreenRule)

/-- RELEASE_SCREEN (R132). -/
def execReleaseScreen (s : State) : Host.Outcome State Fault Refusal :=
  .next (s.takeImmediate .releaseScreen releaseScreenRule)

/-- RESET_SCREEN (R133). -/
def execResetScreen (s : State) : Host.Outcome State Fault Refusal := .next (s.takeImmediate .resetScreen resetScreenRule)

/-- SET_SCREEN (R134). -/
def execSetScreen (s : State) : Host.Outcome State Fault Refusal := .next (s.takeImmediate .setScreen setScreenRule)

/-- DIFFERENTIAL_REPORT (R126). -/
def execDifferentialReport (s : State) : Host.Outcome State Fault Refusal := .next s.differentialReport

/-- WASH_REQUEST (R116). -/
def execWashRequest (n : ScreenNo) (s : State) : Host.Outcome State Fault Refusal := .next (s.washRequest n)

/-- TURN_EDGE (R119). -/
def execTurnEdge (n : ScreenNo) (level : Bool) (s : State) : Host.Outcome State Fault Refusal := .next (s.turnEdge n level)

/-- TURN_WATCH_EXPIRY (R124). -/
def execTurnWatchExpiry (n : ScreenNo) (s : State) : Host.Outcome State Fault Refusal := .next (s.turnWatchExpiry n)

/-- RUNDOWN_EXPIRY (R122). -/
def execRundownExpiry (n : ScreenNo) (s : State) : Host.Outcome State Fault Refusal := .next (s.rundownExpiry n)

/-- OVERLOAD_EVENT (R123). -/
def execOverloadEvent (n : ScreenNo) (level : Bool) (s : State) : Host.Outcome State Fault Refusal :=
  .next (s.overloadEvent n level)

/-- WASH_CANCEL (R130). -/
def execWashCancel (n : ScreenNo) (s : State) : Host.Outcome State Fault Refusal := .next (s.washCancel n)

end Sys2Proof.Machine
end

