-- ==== Sys2Proof/Machine/Pump.lean ====
section
/-!
DEFINITION. The pump unit (08): availability and reports, starting and proving, running, stopping, trips, submergence, pump
orders.
-/

namespace Sys2Proof.Machine

/-! ## RUN and availability (R152, R154) -/

/-- RUN as the state gives it (R152). -/
def PumpState.run : PumpState → Bool
  | .starting => true
  | .running => true
  | .stopped => false
  | .stopping => false
  | .tripped => false

/-- The RUN line of a pump (R151, R152). -/
def State.runLine (s : State) (p : PumpNo) : Bool := s.phase.powered && s.pumpFitted p && (s.pump p).state.run

/-- Whether a W report is GOOD and at or above a pump's minimum submergence. -/
def Pump.deepEnough (w : Measure) (x : Pump) : Bool := w.quality == .good && x.minSubmergence ≤ w.value

/-- The terms of availability (R154). -/
def Pump.canStart (fitted : Bool) (w : Measure) (x : Pump) : Bool :=
  fitted && x.service == .inService && x.state == .stopped && x.delayRemaining == 0 && !x.motorFault && x.deepEnough w

/-- Whether a pump is available as its terms stand (R154). -/
def State.canStart (s : State) (p : PumpNo) : Bool := (s.pump p).canStart (s.pumpFitted p) s.pumps.lastW

/-- Availability re-evaluated (R154). -/
def State.reevaluate (s : State) (p : PumpNo) : State := s.setPump p { s.pump p with available := s.canStart p }

/-! ## Reports (R155, R140) -/

/-- The number of fitted pumps in RUNNING (R140). -/
def State.runningCount (s : State) : Nat := (s.fittedPumpList.filter fun p => (s.pump p).state == .running).length

/-- The pump-change report of a pump (R155). -/
def State.pumpReport (s : State) (p : PumpNo) (refused : Bool) : PumpReport :=
  { pump := p, state := (s.pump p).state, service := (s.pump p).service, available := (s.pump p).available
    lastStop := (s.pump p).lastStop, refused := refused }

/-- Sends the duty unit a pump-change report (R155). -/
def State.sendReport (p : PumpNo) (refused : Bool) (s : State) : State :=
  { s with wires := { s.wires with pumpReports := s.wires.pumpReports ++ [s.pumpReport p refused] } }

/-- Whether an event changed what a pump-change report is sent for (R155). -/
def Pump.changed (old new : Pump) : Bool :=
  old.state != new.state || old.service != new.service || old.available != new.available

/-- A pump-change report if the pump changed since `before` (R155). -/
def State.reportIfChanged (before s : State) (p : PumpNo) : State :=
  if (before.pump p).changed (s.pump p) then s.sendReport p false else s

/-- A running-pump report if the number of pumps in RUNNING changed since `before` (R140, R155). -/
def State.reportRunning (s before : State) : State :=
  if s.runningCount = before.runningCount then s
  else { s with wires := { s.wires with runningReports := s.wires.runningReports ++ [s.runningCount] } }

/-- The end of an event at pumps: availability re-evaluated, one report for each changed, the running-pump report (R154,
R155). -/
def State.settlePumps (ps : List PumpNo) (s before : State) : State :=
  State.reportRunning (ps.foldl (State.reportIfChanged before) (ps.foldl State.reevaluate s)) before

/-- An event that makes `f` of one pump's record. -/
def State.pumpEvent (p : PumpNo) (f : Pump → Pump) (s : State) : State :=
  State.settlePumps [p] (s.setPump p (f (s.pump p))) s

/-! ## Starting and stopping (R156, R160, R161, R163) -/

/-- A pump started (R156). -/
def Pump.started (x : Pump) : Pump :=
  { x with
    state := .starting, startCount := min (x.startCount + 1) 65535, proveWatch := some x.proveTime
    submergenceCount := 0 }

/-- A pump stopped; only STARTING and RUNNING are (R160). -/
def Pump.stopped (cause : StopCause) (x : Pump) : Pump :=
  if x.state.run then
    { x with
      state := .stopping, lastStop := some cause, proveWatch := none, lossWatch := none
      stoppingClock := some x.stoppingTime, submergenceCount := 0 }
  else x

/-- Entry to TRIPPED (R163). -/
def Pump.tripped (cause : StopCause) (x : Pump) : Pump :=
  { x with
    state := .tripped, lastStop := some cause, proveWatch := none, lossWatch := none, stoppingClock := none
    submergenceCount := 0 }

/-- Entry to STOPPED with the restart delay loaded (R161, R167). -/
def Pump.atRest (x : Pump) : Pump :=
  { x with state := .stopped, stoppingClock := none, delayRemaining := x.restartDelay, delayDue := false }

/-- A trip of a pump, PUMP set (R163). -/
def State.trip (cause : StopCause) (p : PumpNo) (s : State) : State :=
  (s.pumpEvent p (Pump.tripped cause)).setFlag .pump

/-- A start request at a pump (R156). -/
def State.start (p : PumpNo) (s : State) : State :=
  if s.pumpFitted p then
    if s.canStart p then s.pumpEvent p Pump.started else s.sendReport p true
  else s

/-- The oldest request on its way to the pump unit, a start request, reaches it (R156, R173). -/
def State.startRequest (s : State) : State :=
  s.whenRunning fun s =>
    match s.wires.pumpRequests with
    | .start p :: rest => ({ s with wires := { s.wires with pumpRequests := rest } }).start p
    | _ => s

/-- The oldest request on its way to the pump unit, a stop request with cause DUTY, reaches it (R160, R173). -/
def State.stopRequest (s : State) : State :=
  s.whenRunning fun s =>
    match s.wires.pumpRequests with
    | .stop p :: rest =>
      ({ s with wires := { s.wires with pumpRequests := rest } }).pumpEvent p (Pump.stopped .duty)
    | _ => s

/-! ## Field edges and watches (R153, R157, R158, R162) -/

/-- PROOF going active at a pump (R157, R158). -/
def State.proof (p : PumpNo) (s : State) : State :=
  match (s.pump p).state with
  | .starting => s.pumpEvent p fun x => { x with state := .running, proveWatch := none, lossWatch := none }
  | .running => s.setPump p { s.pump p with lossWatch := none }
  | .stopped => s
  | .stopping => s
  | .tripped => s

/-- PROOF going inactive at a pump (R157, R158). -/
def State.unproof (p : PumpNo) (s : State) : State :=
  match (s.pump p).state with
  | .running => s.setPump p { s.pump p with lossWatch := some (s.pump p).lossTolerance }
  | .starting => s
  | .stopped => s
  | .stopping => s
  | .tripped => s

/-- MOTOR_FAULT going active at a pump (R162). -/
def State.motorFault (p : PumpNo) (s : State) : State :=
  match (s.pump p).state with
  | .starting => s.trip .motorTrip p
  | .running => s.trip .motorTrip p
  | .stopping => s.trip .motorTrip p
  | .stopped => s.pumpEvent p fun x => x
  | .tripped => s

/-- The qualified level of a pump's input changes: kept in the hold, an event while running (R153, log 15). -/
def State.pumpLine (p : PumpNo) (changes : Bool) (store event : State → State) (s : State) : State :=
  if s.pumpFitted p && changes then
    match s.phase with
    | .unpowered => s
    | .coldStart => s
    | .held => store s
    | .running => event (store s)
  else s

/-- A proof edge (R153, R157, R158). -/
def State.proofEdge (p : PumpNo) (s : State) : State :=
  s.pumpLine p (!(s.pump p).proof) (fun t => t.setPump p { t.pump p with proof := true }) (fun t => t.proof p)

/-- A proof drop (R153, R158). -/
def State.proofDrop (p : PumpNo) (s : State) : State :=
  s.pumpLine p (s.pump p).proof (fun t => t.setPump p { t.pump p with proof := false }) (fun t => t.unproof p)

/-- A motor-fault event (R153, R162). -/
def State.motorFaultEvent (p : PumpNo) (s : State) : State :=
  s.pumpLine p (!(s.pump p).motorFault) (fun t => t.setPump p { t.pump p with motorFault := true }) (fun t => t.motorFault p)

/-- MOTOR_FAULT going inactive: a STOPPED pump's availability is re-evaluated (R153, R154). -/
def State.motorFaultClear (p : PumpNo) (s : State) : State :=
  s.pumpLine p (s.pump p).motorFault (fun t => t.setPump p { t.pump p with motorFault := false })
    (fun t => t.pumpEvent p fun x => x)

/-- An expiry of the prove watch, due when no second is left (R157, log 7). -/
def State.proveWatchExpiry (p : PumpNo) (s : State) : State :=
  s.whenRunning fun s =>
    if (s.pump p).state == .starting && (s.pump p).proveWatch == some 0 then s.trip .proofFail p else s

/-- An expiry of the loss watch, due when no second is left (R158, log 7). -/
def State.lossWatchExpiry (p : PumpNo) (s : State) : State :=
  s.whenRunning fun s =>
    if (s.pump p).state == .running && (s.pump p).lossWatch == some 0 then s.trip .proofLost p else s

/-- An expiry of the stopping clock, due when no second is left (R161, log 7). -/
def State.stoppingClockExpiry (p : PumpNo) (s : State) : State :=
  s.whenRunning fun s =>
    if (s.pump p).state == .stopping && (s.pump p).stoppingClock == some 0 then s.pumpEvent p Pump.atRest else s

/-- Whether the last second of a pump's restart delay has passed (R161, log 8). -/
def State.delayEnds (s : State) (p : PumpNo) : Bool :=
  s.pumpFitted p && (s.pump p).state == .stopped && (s.pump p).delayRemaining == 1 && (s.pump p).delayDue

/-- The restart-delay remaining decremented from 1 to 0. -/
def Pump.delayOver (x : Pump) : Pump := { x with delayRemaining := 0, delayDue := false }

/-- The restart delay of a pump reaches 0 (R161, R171, log 8): while held, the count alone. -/
def State.restartDelayEnd (p : PumpNo) (s : State) : State :=
  if s.delayEnds p then
    match s.phase with
    | .unpowered => s
    | .coldStart => s
    | .held => s.setPump p (s.pump p).delayOver
    | .running => s.pumpEvent p Pump.delayOver
  else s

/-! ## Submergence (R164) -/

/-- The submergence count at which a pump is stopped (R164). -/
def submergenceLimit : Nat := 20

/-- The submergence count after a W report, of a pump in STARTING or RUNNING (R164). -/
def Pump.nextSubmergence (w : Measure) (x : Pump) : Nat :=
  if w.quality = .good ∧ w.value < x.minSubmergence then x.submergenceCount + 1 else 0

/-- Whether a W report stops a pump (R164). -/
def Pump.drawsAir (w : Measure) (x : Pump) : Bool := x.state.run && submergenceLimit ≤ x.nextSubmergence w

/-- A pump at a W report, its availability apart (R164). -/
def Pump.hearW (w : Measure) (x : Pump) : Pump :=
  if x.drawsAir w then x.stopped .submergence
  else if x.state.run then { x with submergenceCount := x.nextSubmergence w }
  else x

/-- The pumps after a W report: every fitted pump is handled (R164). -/
def State.hearW (w : Measure) (s : State) : State :=
  { s with pumps := { records := tab fun p => if s.pumpFitted p then (s.pump p).hearW w else s.pump p, lastW := w } }

/-- A W report at the pump unit (R164). -/
def State.wReport (s : State) : State :=
  s.whenRunning fun s =>
    match s.wires.wToPump with
    | [] => s
    | w :: rest =>
      let s1 := State.settlePumps s.fittedPumpList (({ s with wires := { s.wires with wToPump := rest } }).hearW w) s
      s1.setFlagIf (s.fittedPumpList.any fun p => (s.pump p).drawsAir w) .pump

/-! ## Orders -/

/-- HOLD_PUMP (R165). -/
def holdPumpRule (o : WorkingCopy) (s : State) : Reply :=
  forPump (o.arg 3) s fun p =>
    reply [word (s.pump p).state.code, word (s.pump p).service.code]
      (s.pumpEvent p fun x => { x.stopped .held with service := .outOfService })

/-- RELEASE_PUMP (R166). -/
def releasePumpRule (o : WorkingCopy) (s : State) : Reply :=
  forPump (o.arg 3) s fun p =>
    reply [word (s.pump p).service.code] (s.pumpEvent p fun x => { x with service := .inService })

/-- RESET_PUMP (R167). -/
def resetPumpRule (o : WorkingCopy) (s : State) : Reply :=
  forPump (o.arg 3) s fun p =>
    if (s.pump p).state ≠ .tripped ∨ (s.pump p).motorFault then refuse .wrongState s
    else reply [word (stopCauseCode (s.pump p).lastStop)] (s.pumpEvent p Pump.atRest)

/-- The checks of R168. -/
def pumpArgsOk (o : WorkingCopy) : Bool :=
  5 ≤ o.num 4 && o.num 4 ≤ 120 && 1 ≤ o.num 5 && o.num 5 ≤ 30 && 5 ≤ o.num 6 && o.num 6 ≤ 300 && o.num 7 ≤ 900

/-- SET_PUMP (R168, R169). -/
def setPumpRule (o : WorkingCopy) (s : State) : Reply :=
  forPump (o.arg 3) s fun p =>
    if pumpArgsOk o then
      let t := s.pumpEvent p fun x => { x with
        proveTime := o.num 4, lossTolerance := o.num 5, stoppingTime := o.num 6, restartDelay := o.num 7
        minSubmergence := o.signed 8 }
      reply [word (t.pump p).state.code, word (bit (t.pump p).available)] t
    else refuse .badArgument s

/-! ## Reset (R170, R171) -/

/-- A pump at the fall of RESET_N (R171). -/
def Pump.fall (x : Pump) : Pump :=
  { x with
    state := .stopped, proveWatch := none, lossWatch := none, stoppingClock := none, submergenceCount := 0
    delayRemaining := x.restartDelay, delayDue := false, available := false }

/-- The pump unit at the fall of RESET_N: records of pumps that are not fitted keep their cold-reset values (R151, R171). -/
def State.pumpsFall (s : State) : PumpUnit :=
  { records := tab fun p => if s.pumpFitted p then (s.pump p).fall else s.pump p
    lastW := { s.pumps.lastW with quality := .filling } }

/-- The end of the cold start-up: the restart delay of every fitted pump begins (R170). -/
def State.delaysBegin (s : State) : State :=
  { s with pumps := { s.pumps with
      records := tab fun p =>
        if s.pumpFitted p then { s.pump p with delayRemaining := (s.pump p).restartDelay, delayDue := false }
        else s.pump p } }

/-! ## Commands -/

/-- START_REQUEST (R156). -/
def execStartRequest (s : State) : Host.Outcome State Fault Refusal := .next s.startRequest

/-- STOP_REQUEST (R160). -/
def execStopRequest (s : State) : Host.Outcome State Fault Refusal := .next s.stopRequest

/-- PROOF_EDGE (R157, R158). -/
def execProofEdge (p : PumpNo) (s : State) : Host.Outcome State Fault Refusal := .next (s.proofEdge p)

/-- PROOF_DROP (R158). -/
def execProofDrop (p : PumpNo) (s : State) : Host.Outcome State Fault Refusal := .next (s.proofDrop p)

/-- MOTOR_FAULT_EVENT (R162). -/
def execMotorFaultEvent (p : PumpNo) (s : State) : Host.Outcome State Fault Refusal := .next (s.motorFaultEvent p)

/-- MOTOR_FAULT_CLEAR (R153). -/
def execMotorFaultClear (p : PumpNo) (s : State) : Host.Outcome State Fault Refusal := .next (s.motorFaultClear p)

/-- PROVE_WATCH_EXPIRY (R157). -/
def execProveWatchExpiry (p : PumpNo) (s : State) : Host.Outcome State Fault Refusal := .next (s.proveWatchExpiry p)

/-- LOSS_WATCH_EXPIRY (R158). -/
def execLossWatchExpiry (p : PumpNo) (s : State) : Host.Outcome State Fault Refusal := .next (s.lossWatchExpiry p)

/-- STOPPING_CLOCK_EXPIRY (R161). -/
def execStoppingClockExpiry (p : PumpNo) (s : State) : Host.Outcome State Fault Refusal := .next (s.stoppingClockExpiry p)

/-- RESTART_DELAY_END (R161). -/
def execRestartDelayEnd (p : PumpNo) (s : State) : Host.Outcome State Fault Refusal := .next (s.restartDelayEnd p)

/-- W_REPORT (R164). -/
def execWReport (s : State) : Host.Outcome State Fault Refusal := .next s.wReport

/-- SET_PUMP (R168). -/
def execSetPump (s : State) : Host.Outcome State Fault Refusal := .next (s.takeImmediate .setPump setPumpRule)

/-- HOLD_PUMP (R165). -/
def execHoldPump (s : State) : Host.Outcome State Fault Refusal := .next (s.takeImmediate .holdPump holdPumpRule)

/-- RELEASE_PUMP (R166). -/
def execReleasePump (s : State) : Host.Outcome State Fault Refusal := .next (s.takeImmediate .releasePump releasePumpRule)

/-- RESET_PUMP (R167). -/
def execResetPump (s : State) : Host.Outcome State Fault Refusal := .next (s.takeImmediate .resetPump resetPumpRule)

end Sys2Proof.Machine
end

