-- ==== Sys2Proof/Machine/Duty.lean ====
section
/-!
DEFINITION. The duty unit (09): pump view, running limit, target set, reconcile, moves, rotation, duty orders.
-/

namespace Sys2Proof.Machine

/-! ## Counting (R173, R174, R176) -/

/-- Whether a pump is counted running (R173). -/
def Duty.countsRunning (d : Duty) (p : PumpNo) : Bool := (sel d.view p).state == .running && !(sel d.view p).stopSent

/-- Whether a pump is counted available (R173). -/
def Duty.countsAvailable (d : Duty) (p : PumpNo) : Bool := (sel d.view p).available && !(sel d.view p).stopSent

/-- The running set, in roster order (R173). -/
def Duty.runningSet (d : Duty) : List PumpNo := d.roster.filter d.countsRunning

/-- The running count R (R173). -/
def Duty.runningCount (d : Duty) : Nat := d.runningSet.length

/-- The target set T, in roster order (R176). -/
def Duty.target (d : Duty) : List PumpNo :=
  (d.roster.filter fun p => d.countsRunning p || d.countsAvailable p).take d.limit

/-- Whether the running set is the target set. -/
def Duty.onTarget (d : Duty) : Bool := d.roster.all fun p => d.countsRunning p == decide (p ∈ d.target)

/-- The terms of the running limit (R174). -/
def Duty.limitOf (d : Duty) : Nat :=
  let l1 := match d.floorCopy with
    | some f => min d.demand f
    | none => d.demand
  if d.chokeCopy then min l1 d.chokeLimit else l1

/-- One if a START is in flight, counted with the running pumps (R178, R179). -/
def Move.starting : Move → Nat
  | .start _ => 1
  | .none => 0
  | .change _ _ _ => 0

/-- Whether a move is in flight. -/
def Move.inFlight : Move → Bool
  | .none => false
  | .start _ => true
  | .change _ _ _ => true

/-! ## Requests to the pump unit -/

/-- Sends a start request (R156). -/
def State.askStart (p : PumpNo) (s : State) : State :=
  { s with wires := { s.wires with pumpRequests := s.wires.pumpRequests ++ [.start p] } }

/-- The view of a pump that has been sent a stop request (R173). -/
def Duty.markStop (p : PumpNo) (d : Duty) : Duty := { d with view := upd d.view p { sel d.view p with stopSent := true } }

/-- Sends a stop request with cause DUTY and sets the stop-sent mark (R173). -/
def State.askStop (p : PumpNo) (s : State) : State :=
  { s with
    wires := { s.wires with pumpRequests := s.wires.pumpRequests ++ [.stop p] }
    duty := s.duty.markStop p }

/-- The move slot set. -/
def State.setMove (m : Move) (s : State) : State := s.setDuty { s.duty with move := m }

/-! ## The end of a CHANGE (R178, R184 to R187, R190) -/

/-- The change order completed, if one is held, with the incoming and the outgoing, its reference dropped (R14). -/
def State.completeChange (r : OrderResult) (incoming outgoing : PumpNo) (s : State) : State :=
  match s.duty.changeOrder with
  | none => s
  | some o =>
    (s.setDuty { s.duty with changeOrder := none }).complete o.entry (some o.tag) r [word incoming.1, word outgoing.1]

/-- The roster restored from the saved roster, if there is one (R187). -/
def Duty.restored (d : Duty) : Duty :=
  match d.savedRoster with
  | none => d
  | some r => { d with roster := r, savedRoster := none }

/-- The saved roster restored (R187). -/
def State.restoreRoster (s : State) : State := s.setDuty s.duty.restored

/-- A CHANGE that ends other than OK: the move slot, the order and the roster (R185, R186, R187, R190). -/
def State.abandonChange (m : Move) (r : OrderResult) (incoming outgoing : PumpNo) (s : State) : State :=
  ((s.setMove m).completeChange r incoming outgoing).restoreRoster

/-- A CHANGE that ends OK (R184). -/
def State.changeDone (incoming outgoing : PumpNo) (s : State) : State :=
  let s1 := (s.askStop outgoing).setMove .none
  (s1.setDuty { s1.duty with savedRoster := none }).completeChange .ok incoming outgoing

/-! ## Reconcile (R177 to R181) -/

/-- The move in flight ended by case 1 (R178; log 18 for the order's answer). -/
def State.endMove (s : State) : State :=
  match s.duty.move with
  | .none => s
  | .start p => (s.askStop p).setMove .none
  | .change i o _ => ((s.askStop i).setFlag .pump).abandonChange .none .overtaken i o

/-- Stops counted-running pumps, last in the roster first, until no more than L run (R178). -/
def State.stopExcess (s : State) : State :=
  (s.duty.runningSet.reverse.take (s.duty.runningCount - s.duty.limit)).foldl (fun t p => t.askStop p) s

/-- Whether case 1 holds (R178). -/
def Duty.case1 (d : Duty) : Bool := d.limit < d.runningCount + d.move.starting

/-- Whether case 2 holds (R179). -/
def Duty.case2 (d : Duty) : Bool := !d.move.inFlight && d.runningCount < d.limit

/-- Whether case 3 holds (R180). -/
def Duty.case3 (d : Duty) : Bool := !d.move.inFlight && d.runningCount == d.limit && !d.onTarget

/-- Case 2 with no pump counted available: shortfall, PUMP at its onset (R179). -/
def State.fallShort (s : State) : State :=
  (s.setDuty { s.duty with shortfall := true }).setFlagIf (!s.duty.shortfall) .pump

/-- Case 2: the first counted-available pump is started (R179). -/
def State.startOne (s : State) : State :=
  match s.duty.roster.find? s.duty.countsAvailable with
  | some p => (s.askStart p).setMove (.start p)
  | none => s.fallShort

/-- Case 3's incoming: the first pump of T that is not counted running (R180). -/
def Duty.nextIncoming (d : Duty) : Option PumpNo := d.target.find? fun p => !d.countsRunning p

/-- Case 3's outgoing: the last counted-running pump that is not in T (R180). -/
def Duty.nextOutgoing (d : Duty) : Option PumpNo := d.runningSet.reverse.find? fun p => decide (p ∉ d.target)

/-- Case 3: a changeover is begun (R180). -/
def State.changeOver (s : State) : State :=
  match s.duty.nextIncoming, s.duty.nextOutgoing with
  | some i, some o => (s.askStart i).setMove (.change i o .reconcile)
  | some _, none => s
  | none, _ => s

/-- The first of cases 1 to 3 that holds, if one does. -/
def State.reconcileOnce (s : State) : Option State :=
  if s.duty.case1 then some s.endMove.stopExcess
  else if s.duty.case2 then some s.startOne
  else if s.duty.case3 then some s.changeOver
  else none

/-- A roster rotated: the head joins the tail (R172). -/
def rotated (r : List PumpNo) : List PumpNo :=
  match r with
  | [] => []
  | p :: rest => rest ++ [p]

/-- Case 4: the pending rotation is applied or dropped; after a rotation the reconcile runs once more (R181). -/
def State.applyPending (s : State) : State :=
  let s1 := s.setDuty { s.duty with rotationPending := false }
  if s.duty.lock || s.duty.holdCopy then s1
  else
    let s2 := s1.setDuty { s1.duty with roster := rotated s1.duty.roster }
    match s2.reconcileOnce with
    | some t => t
    | none => s2

/-- Reconcile (R177). -/
def State.reconcile (s : State) : State :=
  match s.reconcileOnce with
  | some t => t
  | none => if !s.duty.move.inFlight && s.duty.rotationPending then s.applyPending else s

/-- The shortfall mark settled (R179). -/
def State.settleShortfall (s : State) : State :=
  if s.duty.limit ≤ s.duty.runningCount + s.duty.move.starting then s.setDuty { s.duty with shortfall := false } else s

/-- Whether an event has changed what reconcile runs for: L, the roster, a view's state or availability, the move slot
(R177 step 4, log 20). -/
def Duty.disturbed (old new : Duty) : Bool :=
  old.limit != new.limit || old.roster != new.roster || old.move != new.move ||
    (List.finRange 6).any fun p =>
      (sel old.view p).state != (sel new.view p).state || (sel old.view p).available != (sel new.view p).available

/-- Steps 3 to 5 of R177 on a state in which the event's own change and the move rules have been made, `before` being the
duty record before the event. -/
def State.dutyEvent (before : Duty) (s : State) : State :=
  let s1 := s.setDuty { s.duty with limit := s.duty.limitOf }
  if before.disturbed s1.duty then s1.reconcile.settleShortfall else s1

/-! ## Pump-change reports (R173, R183 to R186) -/

/-- Whether a report clears the stop-sent mark of its pump (R173). -/
def PumpReport.clearsStop (r : PumpReport) : Bool := r.state == .stopping || r.state == .tripped || r.refused

/-- The view after a report (R173). -/
def PumpView.hear (r : PumpReport) (v : PumpView) : PumpView :=
  { state := r.state, available := r.available, stopSent := v.stopSent && !r.clearsStop }

/-- The pump view with a report copied (R173). -/
def Duty.hear (r : PumpReport) (d : Duty) : Duty := { d with view := upd d.view r.pump ((sel d.view r.pump).hear r) }

/-- Whether a report shows a start proved, `stopSent` being the mark before it (R183, R184). -/
def PumpReport.proves (r : PumpReport) (stopSent : Bool) : Bool := r.state == .running && !stopSent

/-- Whether a report ends a START of its pump (R183). -/
def PumpReport.endsStart (r : PumpReport) (stopSent : Bool) : Bool := r.proves stopSent || r.clearsStop

/-- How a report of its incoming ends a CHANGE without success (R185). -/
def PumpReport.failure (r : PumpReport) : Option OrderResult :=
  if r.state = .tripped then some .failed
  else if r.state = .stopping ∨ r.refused then some .overtaken
  else none

/-- The move rules for a report of a CHANGE's incoming (R184, R185). -/
def State.incomingReport (r : PumpReport) (stopSent : Bool) (i o : PumpNo) (s : State) : State :=
  if r.proves stopSent then s.changeDone i o
  else
    match r.failure with
    | some result => (s.setFlag .pump).abandonChange .none result i o
    | none => s

/-- Whether a report of its outgoing turns a CHANGE into a START (R186; log 25: the mark before the report). -/
def PumpReport.leaves (r : PumpReport) (stopSent : Bool) : Bool :=
  r.state == .tripped || (r.state == .stopping && !stopSent)

/-- The move rules for a report (R183 to R186), `stopSent` being the pump's mark before it. -/
def State.moveRules (r : PumpReport) (stopSent : Bool) (s : State) : State :=
  match s.duty.move with
  | .none => s
  | .start p => if r.pump = p ∧ r.endsStart stopSent then s.setMove .none else s
  | .change i o _ =>
    if r.pump = i then s.incomingReport r stopSent i o
    else if r.pump = o ∧ r.leaves stopSent then (s.setFlag .pump).abandonChange (.start i) .overtaken i o
    else s

/-- A report handled as an event of the duty unit (R177). -/
def State.hearReport (r : PumpReport) (s : State) : State :=
  ((s.setDuty (s.duty.hear r)).moveRules r (sel s.duty.view r.pump).stopSent).dutyEvent s.duty

/-- A pump-change report at the duty unit (R177). -/
def State.pumpChangeReport (s : State) : State :=
  s.whenRunning fun s =>
    match s.wires.pumpReports with
    | [] => s
    | r :: rest => ({ s with wires := { s.wires with pumpReports := rest } }).hearReport r

/-! ## Other events (R175, R177, R190, R191) -/

/-- A W report at the duty unit (R177). -/
def State.wReportDuty (s : State) : State :=
  s.whenRunning fun s =>
    match s.wires.wToDuty with
    | [] => s
    | w :: rest => ({ s with wires := { s.wires with wToDuty := rest } }).setDuty { s.duty with lastW := w }

/-- A choke-change event at the duty unit (R175). -/
def State.chokeChangeEvent (s : State) : State :=
  s.whenRunning fun s =>
    match s.wires.chokeChanges with
    | [] => s
    | c :: rest =>
      (({ s with wires := { s.wires with chokeChanges := rest } }).setDuty { s.duty with chokeCopy := c }).dutyEvent s.duty

/-- An action-change event at the duty unit (R175). -/
def State.actionChangeEvent (s : State) : State :=
  s.whenRunning fun s =>
    match s.wires.actionChanges with
    | [] => s
    | (floor, hold) :: rest =>
      (({ s with wires := { s.wires with actionChanges := rest } }).setDuty
        { s.duty with floorCopy := floor, holdCopy := hold }).dutyEvent s.duty

/-- The cancel of the change order (R190). -/
def State.cancelChange (s : State) : State :=
  match s.duty.move with
  | .change i o _ => ((s.askStop i).abandonChange .none .cancelled i o).dutyEvent s.duty
  | .start _ => s
  | .none => s

/-- A cancel request at the duty unit; one that finds no such change order held is discarded (R8, R190). -/
def State.changeCancel (s : State) : State :=
  s.whenRunning fun s =>
    match s.wires.changeCancels with
    | [] => s
    | e :: rest =>
      let t := { s with wires := { s.wires with changeCancels := rest } }
      if s.duty.holds e then t.cancelChange else t

/-- A rotation expiry handled (R191). -/
def State.rotate (s : State) : State :=
  let d := s.duty
  if d.lock || d.holdCopy then s
  else if d.move.inFlight then s.setDuty { d with rotationPending := true }
  else (s.setDuty { d with roster := rotated d.roster }).dutyEvent d

/-- A rotation expiry at the duty unit (R191). -/
def State.rotationExpiry (s : State) : State :=
  s.whenRunning fun s =>
    match s.wires.rotationExpiries with
    | 0 => s
    | k + 1 => ({ s with wires := { s.wires with rotationExpiries := k } }).rotate

/-! ## Orders -/

/-- SET_DEMAND (R192). -/
def setDemandRule (o : WorkingCopy) (s : State) : Reply :=
  if s.duty.lock then refuse .locked s
  else if s.fittedPumps < o.num 3 then refuse .badArgument s
  else
    let t := (s.setDuty { s.duty with demand := o.num 3 }).dutyEvent s.duty
    reply [word s.duty.demand, word t.duty.limit] t

/-- SET_CHOKE (R193). -/
def setChokeRule (o : WorkingCopy) (s : State) : Reply :=
  if s.duty.lock then refuse .locked s
  else if o.num 3 < 1 ∨ s.fittedPumps < o.num 3 then refuse .badArgument s
  else
    let t := (s.setDuty { s.duty with chokeLimit := o.num 3 }).dutyEvent s.duty
    reply [word s.duty.chokeLimit, word t.duty.limit] t

/-- The pump a word names, if it is 0 to 5. -/
def pumpOfWord (w : Word) : Option PumpNo := if h : w.toNat < 6 then some ⟨w.toNat, h⟩ else none

/-- The pumps that some words name, if each is 0 to 5. -/
def pumpsOfWords : List Word → Option (List PumpNo)
  | [] => some []
  | w :: ws =>
    match pumpOfWord w, pumpsOfWords ws with
    | some p, some ps => some (p :: ps)
    | some _, none => none
    | none, _ => none

/-- SET_ROSTER (R194). -/
def setRosterRule (o : WorkingCopy) (s : State) : Reply :=
  if s.duty.lock then refuse .locked s
  else if s.duty.move.inFlight then refuse .busy s
  else
    match pumpsOfWords (o.args.take s.fittedPumps) with
    | none => refuse .badArgument s
    | some ps =>
      if ps.any fun p => !s.pumpFitted p then refuse .notFitted s
      else if ¬ ps.Nodup then refuse .badArgument s
      else
        reply (s.duty.roster.map fun p => word p.1) ((s.setDuty { s.duty with roster := ps }).dutyEvent s.duty)

/-- LOCK_DUTY (R195). -/
def lockDutyRule (_o : WorkingCopy) (s : State) : Reply :=
  reply [word (bit s.duty.lock)] (s.setDuty { s.duty with lock := true })

/-- The roster with two pumps' places exchanged (R189). -/
def exchanged (a b : PumpNo) (r : List PumpNo) : List PumpNo :=
  r.map fun p => if p = a then b else if p = b then a else p

/-- Checks 3, 4 and 5 of R189. -/
def changeRefusal (d : Duty) (outgoing incoming : PumpNo) : Option OrderResult :=
  if d.lock then some .locked
  else if d.move.inFlight then some .busy
  else if d.countsRunning outgoing && d.countsAvailable incoming && decide (incoming ∉ d.target) && d.onTarget then none
  else some .wrongState

/-- The two pumps of CHANGE, checks 1 and 2 of R189: the refusal, or the outgoing and the incoming. -/
def changeArgs (o : WorkingCopy) (s : State) : Except OrderResult (PumpNo × PumpNo) :=
  match pumpOfWord (o.arg 3), pumpOfWord (o.arg 4) with
  | some a, some b => if s.pumpFitted a && s.pumpFitted b then .ok (a, b) else .error .notFitted
  | some _, none => .error .badArgument
  | none, _ => .error .badArgument

/-- An accepted CHANGE: the roster is saved and its places exchanged, the incoming is started, the entry is held (R189). -/
def State.acceptChange (o : WorkingCopy) (outgoing incoming : PumpNo) (s : State) : State :=
  ((s.askStart incoming).setDuty { s.duty with
    roster := exchanged outgoing incoming s.duty.roster, savedRoster := some s.duty.roster
    move := .change incoming outgoing .order
    changeOrder := some { entry := o.entry, tag := o.tag } }).dutyEvent s.duty

/-- CHANGE at its take (R189). -/
def changeRule (o : WorkingCopy) (s : State) : State :=
  match changeArgs o s with
  | .error r => finish o (refuse r s)
  | .ok (outgoing, incoming) =>
    match changeRefusal s.duty outgoing incoming with
    | some r => finish o (refuse r s)
    | none => s.acceptChange o outgoing incoming

/-! ## Reset (R197) -/

/-- The duty unit at the fall of RESET_N: roster (restored), K and the reference to a change order are kept (R197). -/
def Duty.fall (fittedPumps : Nat) (d : Duty) : Duty :=
  { Duty.cold fittedPumps with
    roster := d.restored.roster, chokeLimit := d.chokeLimit, changeOrder := d.changeOrder
    lastW := { d.lastW with quality := .filling } }

/-! ## Commands -/

/-- PUMP_CHANGE_REPORT (R177). -/
def execPumpChangeReport (s : State) : Host.Outcome State Fault Refusal := .next s.pumpChangeReport

/-- W_REPORT_DUTY (R177). -/
def execWReportDuty (s : State) : Host.Outcome State Fault Refusal := .next s.wReportDuty

/-- CHOKE_CHANGE_EVENT (R175). -/
def execChokeChangeEvent (s : State) : Host.Outcome State Fault Refusal := .next s.chokeChangeEvent

/-- ACTION_CHANGE_EVENT (R175). -/
def execActionChangeEvent (s : State) : Host.Outcome State Fault Refusal := .next s.actionChangeEvent

/-- CHANGE_CANCEL (R190). -/
def execChangeCancel (s : State) : Host.Outcome State Fault Refusal := .next s.changeCancel

/-- ROTATION_EXPIRY (R191). -/
def execRotationExpiry (s : State) : Host.Outcome State Fault Refusal := .next s.rotationExpiry

/-- SET_DEMAND (R192). -/
def execSetDemand (s : State) : Host.Outcome State Fault Refusal := .next (s.takeImmediate .setDemand setDemandRule)

/-- SET_CHOKE (R193). -/
def execSetChoke (s : State) : Host.Outcome State Fault Refusal := .next (s.takeImmediate .setChoke setChokeRule)

/-- SET_ROSTER (R194). -/
def execSetRoster (s : State) : Host.Outcome State Fault Refusal := .next (s.takeImmediate .setRoster setRosterRule)

/-- LOCK_DUTY (R195). -/
def execLockDuty (s : State) : Host.Outcome State Fault Refusal := .next (s.takeImmediate .lockDuty lockDutyRule)

/-- CHANGE (R189). -/
def execChange (s : State) : Host.Outcome State Fault Refusal := .next (s.take (some .change) changeRule)

end Sys2Proof.Machine
end

