-- ==== Sys2Proof/Machine/Level.lean ====
section
/-!
DEFINITION. The level unit (03): channels, filter and value, stuck check, sea record, scan reports, minute history and rate.
-/

namespace Sys2Proof.Machine

/-! ## Channels (R50 to R53) -/

/-- The classes of a sample (R50). -/
inductive Sample where
  | low
  | high
  | accepted
  deriving DecidableEq, Repr

/-- The class of a code against a channel's fault bounds (R50). -/
def Channel.sample (c : Channel) (code : Nat) : Sample :=
  if code < c.faultLow then .low else if c.faultHigh < code then .high else .accepted

/-- The channel of the pump-well level W and the channel of the header pressure H (03 section 3.1). -/
def channelW : Fin 16 := 14
def channelH : Fin 16 := 15

/-- A value kept within the limits of its channel's unit (R51). -/
def unitClamp (n : Fin 16) (x : Int) : Int := if n = channelH then clamp 0 2000 x else clamp16 x

/-- The value of a full filter: the mean scaled onto the engineering range, rounded down (R51). -/
def Channel.scaled (n : Fin 16) (c : Channel) (filter : List Nat) : Int :=
  unitClamp n (c.engLow + ((filter.sum : Int) - 4 * c.rawLow) * (c.engHigh - c.engLow) / (4 * ((c.rawHigh : Int) - c.rawLow)))

/-- Emptied by a low or high sample (R50). -/
def Channel.broke (q : Quality) (c : Channel) : Channel := { c with quality := q, filter := [] }

/-- Filling from this one code (R50). -/
def Channel.refill (code : Nat) (c : Channel) : Channel := { c with quality := .filling, filter := [code] }

/-- An accepted sample in FILLING (R50). -/
def Channel.fill (n : Fin 16) (code : Nat) (c : Channel) : Channel :=
  if (c.filter ++ [code]).length = 4 then
    { c with quality := .good, filter := c.filter ++ [code], value := c.scaled n (c.filter ++ [code]) }
  else { c with filter := c.filter ++ [code] }

/-- An accepted sample in GOOD (R50). -/
def Channel.advance (n : Fin 16) (code : Nat) (c : Channel) : Channel :=
  { c with filter := c.filter.tail ++ [code], value := c.scaled n (c.filter.tail ++ [code]) }

/-- An accepted sample, by the channel's quality; `same` says that the code is that of the previous scan (R50). -/
def Channel.accept (n : Fin 16) (code : Nat) (same : Bool) (c : Channel) : Channel :=
  match c.quality with
  | .unconfigured => c
  | .filling => c.fill n code
  | .good => c.advance n code
  | .broken => c.refill code
  | .over => c.refill code
  | .stuck => if same then c else c.refill code

/-- The limit of the run length: 120 scans to each minute of the stuck window (R52). -/
def Channel.stuckLimit (c : Channel) : Nat := 120 * c.stuckWindow

/-- The run length after a scan (R52). -/
def Channel.nextRun (same : Bool) (c : Channel) : Nat :=
  if c.stuckWindow = 0 then 0 else if same then min (c.runLength + 1) c.stuckLimit else 0

/-- The stuck check (R53). -/
def Channel.stuckCheck (c : Channel) : Channel :=
  if c.stuckWindow ≠ 0 ∧ c.stuckLimit ≤ c.runLength ∧ (c.quality = .filling ∨ c.quality = .good) then c.broke .stuck else c

/-- The table of R50 for a configured channel. -/
def Channel.classed (n : Fin 16) (code : Nat) (same : Bool) (c : Channel) : Channel :=
  match c.sample code with
  | .low => c.broke .broken
  | .high => c.broke .over
  | .accepted => c.accept n code same

/-- A channel at a scan completion: every channel records the code; a configured one classes it, counts its run and makes
the stuck check (R50 to R53). `first` says that no scan since the last reset stands to compare with (R52). -/
def Channel.scan (n : Fin 16) (first : Bool) (code : RawCode) (c : Channel) : Channel :=
  if c.quality = .unconfigured then { c with lastRaw := code.toNat }
  else
    let same := !first && code.toNat == c.lastRaw
    ({ c.classed n code.toNat same with lastRaw := code.toNat, runLength := c.nextRun same } : Channel).stuckCheck

/-! ## The sea record (R57 to R59) -/

/-- A sea value, its quality and the gauge in use. -/
structure SeaReading where
  value : Int
  quality : SeaQuality
  gauge : Gauge
  deriving DecidableEq, Repr

/-- The choice between two GOOD gauges that disagree: the one nearer to P while the prediction is VALID, else G0 (R57). -/
def arbitrate (valid : Bool) (p v0 v1 : Int) : SeaReading :=
  if valid && (v1 - p).natAbs < (v0 - p).natAbs then { value := v1, quality := .disagree, gauge := .g1 }
  else { value := v0, quality := .disagree, gauge := .g0 }

/-- The sea record of a scan, from the two gauges, the band, the prediction and the value held (R57, R58). -/
def deriveSea (g0 g1 : Channel) (band : Nat) (valid : Bool) (p held : Int) : SeaReading :=
  if g0.quality = .good then
    if g1.quality = .good then
      if (g0.value - g1.value).natAbs ≤ band then
        { value := (g0.value + g1.value) / 2, quality := .good, gauge := .mean }
      else arbitrate valid p g0.value g1.value
    else { value := g0.value, quality := .single, gauge := .g0 }
  else if g1.quality = .good then { value := g1.value, quality := .single, gauge := .g1 }
  else { value := held, quality := .lost, gauge := .held }

/-! ## Scan reports (R62, R63, R64) -/

/-- A channel's value and quality. -/
def Channel.measure (c : Channel) : Measure := { value := c.value, quality := c.quality }

/-- The upstream and downstream channels of a screen (03 section 3.1). -/
def upstream (n : ScreenNo) : Fin 16 := ⟨2 + n.1, by omega⟩
def downstream (n : ScreenNo) : Fin 16 := ⟨8 + n.1, by omega⟩

/-- The differential of a screen: upstream minus downstream, valid when both are GOOD, clamped (R62; log 17 for the value
shown while INVALID). -/
def Level.differential (l : Level) (n : ScreenNo) : Differential :=
  let u := sel l.channels (upstream n)
  let d := sel l.channels (downstream n)
  { value := clamp16 (u.value - d.value), valid := u.quality == .good && d.quality == .good }

/-- Sends the reports of a scan (R62, R63, R64). -/
def State.sendScan (s : State) : State :=
  let w := (sel s.level.channels channelW).measure
  { s with wires := { s.wires with
      seaReports := s.wires.seaReports ++ [(s.level.seaValue, s.level.seaQuality)]
      diffReports := s.wires.diffReports ++ [s.fittedScreenList.map fun n => (n, s.level.differential n)]
      wToPump := s.wires.wToPump ++ [w]
      wToDuty := s.wires.wToDuty ++ [w]
      hReports := s.wires.hReports ++ [(sel s.level.channels channelH).measure] } }

/-- The level unit after a scan: every channel, then the sea record (R49, R57). -/
def Level.scan (codes : Vector RawCode 16) (valid : Bool) (p : Int) (l : Level) : Level :=
  let channels := tab fun n => (sel l.channels n).scan n (!l.scanned) (sel codes n)
  let sea := deriveSea (sel channels 0) (sel channels 1) l.band valid p l.seaValue
  { l with
    channels := channels, scanned := true, seaValue := sea.value, seaQuality := sea.quality, gauge := sea.gauge }

/-- A scan completion (R49 to R59, R62 to R64). -/
def State.scanCompletion (codes : Vector RawCode 16) (s : State) : State :=
  s.whenRunning fun s =>
    let level := s.level.scan codes s.tide.valid s.tide.level
    ({ s with level := level }.setFlagIf (level.seaQuality != s.level.seaQuality) .sea).sendScan

/-! ## The minute history and the rate (R65, R66, R67) -/

/-- The number of entries of a full history. -/
def historyLength : Nat := 11

/-- Appends the sea record to the history; of eleven entries the oldest leaves first (R65). -/
def Level.append (l : Level) : Level :=
  { l with
    history := (if historyLength ≤ l.history.length then l.history.tail else l.history) ++ [(l.seaValue, l.seaQuality)] }

/-- Whether the rate is valid: eleven entries, none LOST (R66). -/
def rateValid (h : List (Int × SeaQuality)) : Bool := h.length == historyLength && h.all fun e => e.2 != .lost

/-- The rate: newest less oldest, clamped; 0 while invalid (R66). -/
def rateOf (h : List (Int × SeaQuality)) : Int :=
  if rateValid h then
    match h.head?, h.getLast? with
    | some a, some b => clamp16 (b.1 - a.1)
    | _, _ => 0
  else 0

/-- Sends a rate report of the history as it stands (R66, R67). -/
def State.sendRate (s : State) : State :=
  { s with wires := { s.wires with
      rateReports := s.wires.rateReports ++ [(rateOf s.level.history, rateValid s.level.history)] } }

/-- A minute event at the level unit: the append and the rate report (R65, R66). -/
def State.minuteEventLevel (s : State) : State :=
  s.whenRunning fun s =>
    match s.wires.toLevel with
    | .minute _ :: rest => ({ s with wires := { s.wires with toLevel := rest }, level := s.level.append }).sendRate
    | _ => s

/-- A time-set event at the level unit: the history is emptied and an invalid rate is reported (R67). -/
def State.timeSetEventLevel (s : State) : State :=
  s.whenRunning fun s =>
    match s.wires.toLevel with
    | .timeSet _ _ _ :: rest =>
      ({ s with wires := { s.wires with toLevel := rest }, level := { s.level with history := [] } }).sendRate
    | _ => s

/-! ## Orders -/

/-- The engineering ends that SET_CHANNEL's words give: signed for levels, 0 to 2000 for H (R54 check 3, R198). -/
def engValue (n : Fin 16) (w : Word) : Int := if n = channelH then w.toNat else w.toInt

/-- Checks 2 to 5 of R54. -/
def channelArgsOk (n : Fin 16) (o : WorkingCopy) : Bool :=
  o.num 4 ≤ 4095 && o.num 5 ≤ 4095 && o.num 4 < o.num 5 &&
    o.arg 6 != o.arg 7 && (n != channelH || (o.num 6 ≤ 2000 && o.num 7 ≤ 2000)) &&
    o.num 8 ≤ 4095 && o.num 9 ≤ 4095 && o.num 8 < o.num 9 && o.num 10 ≤ 255

/-- SET_CHANNEL (R54, R55). -/
def setChannelRule (o : WorkingCopy) (s : State) : Reply :=
  forSixteen (o.arg 3) s fun n =>
    if channelArgsOk n o then
      let c := sel s.level.channels n
      reply [word c.quality.code, word c.filter.length]
        { s with level := { s.level with
            channels := upd s.level.channels n { c with
              rawLow := o.num 4, rawHigh := o.num 5, engLow := engValue n (o.arg 6), engHigh := engValue n (o.arg 7)
              faultLow := o.num 8, faultHigh := o.num 9, stuckWindow := o.num 10
              quality := .filling, filter := [], runLength := 0 } } }
    else refuse .badArgument s

/-- SET_SEA (R60). -/
def setSeaRule (o : WorkingCopy) (s : State) : Reply :=
  if o.num 3 ≤ 1000 then reply [word s.level.band] { s with level := { s.level with band := o.num 3 } }
  else refuse .badArgument s

/-! ## Reset -/

/-- A channel at the fall of RESET_N: configuration and value kept, the filter emptied (R56). -/
def Channel.fall (c : Channel) : Channel :=
  { c with quality := if c.quality = .unconfigured then .unconfigured else .filling, filter := [], runLength := 0 }

/-- The level unit at the fall of RESET_N (R52, R56, R61, R67): band and sea value kept, quality LOST, history emptied. The
gauge in use, which LOST leaves held, is shown so (log 4). -/
def Level.fall (l : Level) : Level :=
  { l with
    channels := tab fun n => (sel l.channels n).fall, scanned := false, seaQuality := .lost, gauge := .held
    history := [] }

/-! ## Commands -/

/-- SCAN_COMPLETION (R49). -/
def execScanCompletion (codes : Vector RawCode 16) (s : State) : Host.Outcome State Fault Refusal :=
  .next (s.scanCompletion codes)

/-- MINUTE_EVENT_LEVEL (R65). -/
def execMinuteEventLevel (s : State) : Host.Outcome State Fault Refusal := .next s.minuteEventLevel

/-- TIME_SET_EVENT_LEVEL (R67). -/
def execTimeSetEventLevel (s : State) : Host.Outcome State Fault Refusal := .next s.timeSetEventLevel

/-- SET_CHANNEL (R54, R55). -/
def execSetChannel (s : State) : Host.Outcome State Fault Refusal := .next (s.takeImmediate .setChannel setChannelRule)

/-- SET_SEA (R60). -/
def execSetSea (s : State) : Host.Outcome State Fault Refusal := .next (s.takeImmediate .setSea setSeaRule)

end Sys2Proof.Machine
end

