-- ==== Sys2Proof/Config.lean ====
section
/-!
DEFINITION. What the spec leaves open and the model leaves free, and the constants of the part.
-/

namespace Sys2Proof

/-- A free value (log 11): what a snapshot word shows in a field that has no value (an entry of an empty minute history,
the owner number of a timer no screen owns, the outgoing pump of a START, and the like). It has no body, so nothing can
be proved of it. The argument is a counter of State, so that each use is a fresh value. -/
opaque Config.freeWord : Nat → Word

end Sys2Proof
end

