-- ==== Sys2Proof/Machine/Report.lean ====
section
/-!
DEFINITION. The port's own orders: UNKNOWN_KIND completions, DESCRIBE (R24, R25), SNAPSHOT (R26, R27) with the blocks of 11
section 11.5.
-/

namespace Sys2Proof.Machine

/-! ## Sizing (R26) -/

/-- The six sections, by their positions in the mask (11 section 11.1). -/
inductive Section where
  | levels
  | tide
  | alarms
  | screens
  | pumps
  | timers
  deriving DecidableEq, Repr

/-- The sections in snapshot order (R26). -/
def allSections : List Section := [.levels, .tide, .alarms, .screens, .pumps, .timers]

/-- A section's position in the mask (R198). -/
def Section.position : Section → Nat
  | .levels => 0
  | .tide => 1
  | .alarms => 2
  | .screens => 3
  | .pumps => 4
  | .timers => 5

/-- Whether a mask sets no position outside the six sections (R25, R27). -/
def maskOk (mask : Word) : Bool := mask.toNat < 64

/-- The sections a mask selects. -/
def selected (mask : Word) : List Section := allSections.filter fun x => mask.getLsbD x.position

/-- The words of a section (R26). -/
def State.sectionSize (s : State) : Section → Nat
  | .levels => 72
  | .tide => 8 + 4 * s.tide.liveEdition.length
  | .alarms => 128
  | .screens => 12 + 12 * s.fittedScreens
  | .pumps => 12 + 12 * s.fittedPumps
  | .timers => 64

/-- The size of a snapshot (R26). -/
def State.snapshotSize (s : State) (mask : Word) : Nat := 8 + ((selected mask).map s.sectionSize).sum

/-! ## DESCRIBE (R24, R25) -/

/-- The vendor text "ZALTROP ", two characters a word, the first in the low byte (R24). -/
def vendorText : List Word := [0x415A, 0x544C, 0x4F52, 0x2050]

/-- The answer of leaf 4 (R25). -/
def Tide.describe (t : Tide) : List Word :=
  [word t.live.code, word t.editionA.length, word t.editionB.length] ++
    instantWords (t.liveEdition.head?.map fun e => e.time) ++
    instantWords (t.liveEdition.getLast?.map fun e => e.time)

/-- The answer of DESCRIBE; a leaf or sub-leaf with no meaning gives all words 0 (R24, R25). -/
def State.describe (s : State) (leaf sub : Word) : List Word :=
  match leaf.toNat with
  | 0 => if sub = 0 then 4 :: vendorText else []
  | 1 => if sub = 0 then [word familyCode, word modelNumber, word stepping, 32, 15360] else []
  | 2 => if sub = 0 then [word s.fittedScreens, word s.fittedPumps, 16, 16, 16, 64, 3] else []
  | 3 => if maskOk sub then [word (s.snapshotSize sub)] else []
  | 4 => if sub = 0 then s.tide.describe else []
  | _ => []

/-- DESCRIBE (R24, R25). -/
def describeRule (o : WorkingCopy) (s : State) : Reply := reply (s.describe (o.arg 3) (o.arg 4)) s

/-! ## Blocks (11 section 11.5) -/

/-- A free value of this take, for a field that has no value to show, kept to the bits of the field (log 11). -/
def State.freeBits (s : State) (k : Nat) (bits : Word) : Word := Config.freeWord (s.draws + k) &&& bits

/-- How many free values one snapshot may draw (log 11). -/
def snapshotDraws : Nat := 27

/-- The header (11 section 11.5). -/
def State.headerBlock (s : State) (mask : Word) : List Word :=
  [mask, word (s.snapshotSize mask)] ++ instantWords (some s.time.clock.minuteCount) ++
    [packed [(0, bit s.time.clock.suspect), (1, s.time.base.code)],
      packed [(0, s.fittedScreens), (8, s.fittedPumps)],
      packed [(15, s.tide.live.code), (0, s.tide.liveEdition.length)],
      word stepping]

/-- A channel block. -/
def Channel.block (c : Channel) : List Word :=
  [packed [(0, c.quality.code), (4, c.filter.length)], signedWord c.value, word c.lastRaw, word c.runLength]

/-- The oldest and newest values of the history; of an empty history, free values (log 11). -/
def State.historyEnds (s : State) : List Word :=
  match s.level.history.head?, s.level.history.getLast? with
  | some a, some b => [signedWord a.1, signedWord b.1]
  | _, _ => [s.freeBits 0 0xFFFF, s.freeBits 1 0xFFFF]

/-- The sea block. -/
def State.seaBlock (s : State) : List Word :=
  let l := s.level
  [signedWord l.seaValue, packed [(0, l.seaQuality.code), (4, l.gauge.code)], word l.band,
    signedWord (rateOf l.history), packed [(0, bit (rateValid l.history)), (8, l.history.length)]] ++
  s.historyEnds ++ [word (l.history.filter fun e => e.2 == .lost).length]

/-- The words of an optional instant and height: absent as 0xFFFF twice and height 0 (R198). -/
def waterWords : Option (Nat × Int) → List Word
  | none => instantWords none ++ [0]
  | some (t, h) => instantWords (some t) ++ [signedWord h]

/-- A tide event's four words (11 section 11.4). -/
def TideEvent.words (e : TideEvent) : List Word := instantWords (some e.time) ++ [signedWord e.height, word e.kind.code]

/-- The TIDE section. -/
def Tide.section (t : Tide) : List Word :=
  [packed [(0, bit t.valid), (1, bit t.short)], signedWord t.level] ++ waterWords t.nextHigh ++ waterWords t.nextLow ++
    t.liveEdition.flatMap TideEvent.words

/-- A derate floor in three bits, 7 when absent (11 section 11.5). -/
def floorCode : Option Nat → Nat
  | none => 7
  | some f => f

/-- Word 1 of an alarm block, by kind. -/
def Alarm.word1 (a : Alarm) : Word :=
  if a.kind.measured then signedWord a.threshold
  else if a.kind = .tideLead then word a.lead
  else packed [(8, a.hour), (0, a.minute)]

/-- Bits 9 to 0 of word 2 of an alarm block, by kind. -/
def Alarm.word2 (a : Alarm) : Nat :=
  if a.kind.measured then a.hysteresis
  else if a.kind = .tideLead then a.which.code
  else match a.mode with
    | .weekdays => a.weekdays.toNat
    | .date => 512 + a.day

/-- An alarm block, with the unit's derate floor and hold state. -/
def Alarm.block (floor : Option Nat) (hold : Bool) (a : Alarm) : List Word :=
  [packed [(0, a.kind.code), (3, bit a.enabled), (4, a.state.code), (7, bit a.inputLost), (8, a.actions.code),
      (12, a.derateValue)],
    a.word1, packed [(0, a.word2), (10, floorCode floor), (15, bit hold)],
    packed [(0, a.persistence), (8, a.count)]] ++ instantWords a.raised ++ instantWords a.armed

/-- The byte of a queue position, 0xFF past the tail. -/
def queueByte (q : List (ScreenNo × WashClass)) (i : Nat) : Nat :=
  match q[i]? with
  | none => 255
  | some (n, .urgent) => n.1 + 128
  | some (n, .routine) => n.1

/-- The wash header block. -/
def State.washBlock (s : State) : List Word :=
  let w := s.wash
  [word w.capacity, word w.minPressure, word w.tolerance,
    packed [(0, w.slots), (4, bit w.pressurised), (5, bit s.chokeState)],
    word w.lossCount, word w.running, word w.queue.length, signedWord w.lastH.value] ++
  ((List.range 3).map fun i => packed [(0, queueByte w.queue (2 * i)), (8, queueByte w.queue (2 * i + 1))]) ++
  [word w.lastH.quality.code]

/-- Word 7 of a screen block: the wash order; absent, its entry and turns are free values (log 11). -/
def State.washOrderWord (s : State) (n : ScreenNo) : Word :=
  match (s.screen n).washOrder with
  | some o => packed [(15, 1), (0, o.entry.1), (8, o.turns)]
  | none => s.freeBits (18 + n.1) 0x0F1F

/-- A screen block. -/
def State.screenBlock (s : State) (n : ScreenNo) : List Word :=
  let x := s.screen n
  [packed [(0, n.1), (3, x.service.code), (4, x.state.code), (8, bit x.choked), (9, bit x.again),
      (10, bit x.intervalRestart), (11, bit x.lastDp.valid)],
    packed [(0, x.causes.code), (8, x.stored.code)],
    packed [(0, x.turnsWanted), (4, x.turnsDone), (8, x.configTurns)],
    signedWord x.startThreshold, signedWord x.chokeThreshold, word x.turnTimeout, word x.rundownTime,
    s.washOrderWord n, word x.washCount] ++ instantWords x.lastWashEnd ++ [signedWord x.lastDp.value]

/-- The nibble of a roster position, 0xF past the fitted count or with no roster. -/
def rosterNibble (r : List PumpNo) (i : Nat) : Nat :=
  match r[i]? with
  | none => 15
  | some p => p.1

/-- A roster in two words, four bits a position (11 section 11.5). -/
def rosterWords (r : List PumpNo) : List Word :=
  [packed [(0, rosterNibble r 0), (4, rosterNibble r 1), (8, rosterNibble r 2), (12, rosterNibble r 3)],
    packed [(0, rosterNibble r 4), (4, rosterNibble r 5), (8, 15), (12, 15)]]

/-- Words 4 and 5 of the duty block: the move. What a START or an empty slot does not have is a free value, but word 5 is
0 when the slot is NONE (11 section 11.5, log 11). -/
def State.moveWords (s : State) : List Word :=
  match s.duty.move with
  | .none => [s.freeBits 24 4, 0]
  | .start p => [packed [(0, 1)] ||| s.freeBits 24 4, packed [(0, p.1)] ||| s.freeBits 25 0x0F00]
  | .change i o origin => [packed [(0, 2), (2, origin.code)], packed [(0, i.1), (8, o.1)]]

/-- Word 6 of the duty block: the change order; absent, its entry is a free value (log 11). -/
def State.changeOrderWord (s : State) : Word :=
  match s.duty.changeOrder with
  | some o => packed [(15, 1), (0, o.entry.1)]
  | none => s.freeBits 26 0x001F

/-- The saved roster, or no roster when absent. -/
def Duty.savedWords (d : Duty) : List Word :=
  match d.savedRoster with
  | some r => rosterWords r
  | none => [0xFFFF, 0xFFFF]

/-- The duty block. -/
def State.dutyBlock (s : State) : List Word :=
  let d := s.duty
  [packed [(0, d.demand), (4, d.chokeLimit), (8, d.limit)],
    packed [(0, bit d.lock), (1, bit d.rotationPending), (2, bit d.shortfall), (3, bit d.chokeCopy), (4, bit d.holdCopy),
      (5, floorCode d.floorCopy)]] ++
  rosterWords d.roster ++ s.moveWords ++ [s.changeOrderWord] ++ d.savedWords ++
  [signedWord d.lastW.value, word d.lastW.quality.code, word d.runningCount]

/-- A pump block. -/
def State.pumpBlock (s : State) (p : PumpNo) : List Word :=
  let x := s.pump p
  [packed [(0, p.1), (3, x.service.code), (4, x.state.code), (7, bit x.available), (8, stopCauseCode x.lastStop)],
    word x.proveTime, word x.lossTolerance, word x.stoppingTime, word x.restartDelay, signedWord x.minSubmergence,
    word x.delayRemaining] ++ [word x.runMinutes, word (x.runMinutes / 65536)] ++
  [word x.startCount, word x.submergenceCount, packed [(0, bit x.proof), (1, bit x.motorFault)]]

/-- Word 0 of a timer block; the owner number of a timer that no screen owns is a free value (log 11). -/
def State.timerWord (s : State) (t : TimerNo) : Word :=
  let x := s.timer t
  match x.owner with
  | .screen n => packed [(0, x.owner.code), (4, n.1), (8, x.unit.code), (15, bit x.running)]
  | .none => packed [(0, x.owner.code), (8, x.unit.code), (15, bit x.running)] ||| s.freeBits (2 + t.1) 0x0070
  | .rotation => packed [(0, x.owner.code), (8, x.unit.code), (15, bit x.running)] ||| s.freeBits (2 + t.1) 0x0070
  | .report => packed [(0, x.owner.code), (8, x.unit.code), (15, bit x.running)] ||| s.freeBits (2 + t.1) 0x0070

/-- A timer block. -/
def State.timerBlock (s : State) (t : TimerNo) : List Word :=
  [s.timerWord t, word (s.timer t).preset, word (s.timer t).count, word (s.timer t).expiries]

/-- The words of a section (R26, 11 section 11.5). -/
def State.sectionWords (s : State) : Section → List Word
  | .levels => ((List.finRange 16).flatMap fun i => (sel s.level.channels i).block) ++ s.seaBlock
  | .tide => s.tide.section
  | .alarms => (List.finRange 16).flatMap fun i => (sel s.alarm.records i).block s.alarm.floor s.alarm.holdState
  | .screens => s.washBlock ++ s.fittedScreenList.flatMap s.screenBlock
  | .pumps => s.dutyBlock ++ s.fittedPumpList.flatMap s.pumpBlock
  | .timers => (List.finRange 16).flatMap s.timerBlock

/-- A snapshot: the header and the selected sections (R26). -/
def State.snapshotWords (s : State) (mask : Word) : List Word :=
  s.headerBlock mask ++ (selected mask).flatMap s.sectionWords

/-- SNAPSHOT (R27). What it writes shows the state at the take. -/
def snapshotRule (o : WorkingCopy) (s : State) : Reply :=
  if !maskOk (o.arg 3) then refuse .badArgument s
  else if o.num 4 < bulkStart ∨ memEnd < o.num 4 + o.num 5 then refuse .badArgument s
  else if o.num 5 < s.snapshotSize (o.arg 3) then (s, .roomShort, [word (s.snapshotSize (o.arg 3))])
  else
    reply [word (s.snapshotSize (o.arg 3))]
      { s.writeWords (o.num 4) (s.snapshotWords (o.arg 3)) with draws := s.draws + snapshotDraws }

/-! ## Commands -/

/-- UNKNOWN_KIND (R12): the take of an entry whose kind is none of the twenty-six. -/
def execUnknownKind (s : State) : Host.Outcome State Fault Refusal :=
  .next (s.take none fun o t => finish o (refuse .unknownKind t))

/-- DESCRIBE (R24, R25). -/
def execDescribe (s : State) : Host.Outcome State Fault Refusal := .next (s.takeImmediate .describe describeRule)

/-- SNAPSHOT (R27). -/
def execSnapshot (s : State) : Host.Outcome State Fault Refusal := .next (s.takeImmediate .snapshot snapshotRule)

end Sys2Proof.Machine
end

