-- ==== Sys2Proof/Machine/Time.lean ====
section
/-!
DEFINITION. The time unit (02): time base, civil clock, timer bank, their orders and events.
-/

namespace Sys2Proof.Machine

/-! ## Source cycles (02 section 2.1, log 6) -/

/-- One cycle of the divider's source with no event in it: the divider counts it and, while the source is the RC
oscillator, so does the confirm period. The end of a second and of a whole confirm period are events of their own
(SECOND_STEP, CRYSTAL_CONFIRMED), so each count stays below its end (log 6). -/
def TimeUnit.cycle (t : TimeUnit) : TimeUnit :=
  { t with
    divider := min (t.divider + 1) 32767
    confirm := if t.base = .crystal then t.confirm else min (t.confirm + 1) 65535 }

/-- What passes on an empty queue: one source cycle, if the part is powered (log 6). -/
def State.sourceCycle (s : State) : State :=
  match s.phase with
  | .unpowered => s
  | .coldStart => { s with time := s.time.cycle }
  | .running => { s with time := s.time.cycle }
  | .held => { s with time := s.time.cycle }

/-! ## Time base (R28, R29, R30) -/

/-- Sends a suspect-change event to the tide and alarm units (R34). -/
def State.sendSuspectChange (s : State) : State :=
  { s with wires := { s.wires with
      toTide := s.wires.toTide ++ [.suspectChange true]
      toAlarm := s.wires.toAlarm ++ [.suspectChange true] } }

/-- The time base enters CRYSTAL; the suspect mark, the divider's count and SUMMARY stay (R28, R30). The monitor looks for
no confirmation there. -/
def TimeUnit.confirmed (t : TimeUnit) : TimeUnit :=
  if t.base = .crystal then t else { t with base := .crystal, confirm := 0 }

/-- The crystal is confirmed in any powered phase (R28, R35). -/
def State.crystalConfirmed (s : State) : State :=
  match s.phase with
  | .unpowered => s
  | .coldStart => { s with time := s.time.confirmed }
  | .running => { s with time := s.time.confirmed }
  | .held => { s with time := s.time.confirmed }

/-- The time base falls back to RC with its divider's count kept, and the suspect mark is set (R29, R30). -/
def TimeUnit.failed (t : TimeUnit) : TimeUnit :=
  { t with base := .rcFallback, confirm := 0, clock := { t.clock with suspect := true } }

/-- In RC_START and RC_FALLBACK a gap restarts the confirm period (R28, R29). -/
def TimeUnit.restartConfirm (t : TimeUnit) : TimeUnit := if t.base = .crystal then t else { t with confirm := 0 }

/-- A gap of the crystal in CRYSTAL is a crystal failure (R29): while running it sets TIMEBASE and, if the mark was clear,
sends suspect-change events; while held, the failure is recorded for the release (R35); in the cold start-up no event is
sent (R35, log 14). -/
def State.crystalFailure (s : State) : State :=
  if s.time.base = .crystal then
    match s.phase with
    | .unpowered => s
    | .coldStart => { s with time := s.time.failed }.setFlag .timebase
    | .running =>
      let s1 := { s with time := s.time.failed }.setFlag .timebase
      if s.time.clock.suspect then s1 else s1.sendSuspectChange
    | .held => { s with time := { s.time.failed with failedInHold := true } }
  else
    match s.phase with
    | .unpowered => s
    | .coldStart => { s with time := s.time.restartConfirm }
    | .running => { s with time := s.time.restartConfirm }
    | .held => { s with time := s.time.restartConfirm }

/-- The confirm period restarts (R28). -/
def State.confirmRestart (s : State) : State :=
  match s.phase with
  | .unpowered => s
  | .coldStart => { s with time := s.time.restartConfirm }
  | .running => { s with time := s.time.restartConfirm }
  | .held => { s with time := s.time.restartConfirm }

/-! ## The calendar (R31) -/

/-- The length of a month (R31). -/
def monthLength (year month : Nat) : Nat :=
  if month = 2 then (if year % 4 = 0 then 29 else 28)
  else if month = 4 ∨ month = 6 ∨ month = 9 ∨ month = 11 then 30
  else 31

/-- Days from 2000-01-01 to the first day of a year. -/
def daysBeforeYear (year : Nat) : Nat := 365 * (year - 2000) + (year - 2000 + 3) / 4

/-- Days from the first day of a year to the first day of a month. -/
def daysBeforeMonth (year : Nat) : Nat → Nat
  | 0 => 0
  | 1 => 0
  | m + 2 => daysBeforeMonth year (m + 1) + monthLength year (m + 1)

/-- Days from 2000-01-01 to a date (02, Converting a date to an instant). -/
def dayNumber (year month day : Nat) : Nat := daysBeforeYear year + daysBeforeMonth year month + (day - 1)

/-- The weekday of a day number: 2000-01-01 is a Saturday, 5 (R31). -/
def weekdayOf (days : Nat) : Nat := (5 + days) % 7

/-- The minute count of a date and time (02 section 2.2). -/
def instantOf (year month day hour minute : Nat) : Nat := 1440 * dayNumber year month day + 60 * hour + minute

/-- The carry into the month, and from it into the year (R31). -/
def Clock.monthStep (c : Clock) : Clock :=
  if c.month + 1 < 13 then { c with month := c.month + 1 } else { c with month := 1, year := c.year + 1 }

/-- The carry into the day and the weekday (R31). -/
def Clock.dayStep (c : Clock) : Clock :=
  let w := if c.weekday = 6 then 0 else c.weekday + 1
  if c.day + 1 ≤ monthLength c.year c.month then { c with weekday := w, day := c.day + 1 }
  else ({ c with weekday := w, day := 1 } : Clock).monthStep

/-- The carry into the hour (R31). -/
def Clock.hourStep (c : Clock) : Clock :=
  if c.hour + 1 < 24 then { c with hour := c.hour + 1 } else ({ c with hour := 0 } : Clock).dayStep

/-- The carry into the minute and the minute count (R31). -/
def Clock.minuteStep (c : Clock) : Clock :=
  let c1 := { c with second := 0, minuteCount := c.minuteCount + 1 }
  if c.minute + 1 < 60 then { c1 with minute := c.minute + 1 } else ({ c1 with minute := 0 } : Clock).hourStep

/-- Whether the next second step is the century end (R33). -/
def Clock.atCenturyEnd (c : Clock) : Bool :=
  c.year == 2099 && c.month == 12 && c.day == 31 && c.hour == 23 && c.minute == 59 && c.second == 59

/-- Whether the next second step increments the minute. -/
def Clock.minuteDue (c : Clock) : Bool := 60 ≤ c.second + 1

/-- A second step of the clock (R31); at the century end it loads 2000-01-01 00:00:00 with the mark set (R33). -/
def Clock.step (c : Clock) : Clock :=
  if c.atCenturyEnd then Clock.cold
  else if c.minuteDue then c.minuteStep
  else { c with second := c.second + 1 }

/-! ## Second steps (R31, R32, R33, R35) -/

/-- The unit ticks of a second step, from the clock before and after it (R32). R32 and R33 name the ticks and state no order
among them; that they reach the timer bank as SECOND, MINUTE, QUARTER_HOUR, HOUR is the model's choice (log 21). -/
def ticksOf (old new : Clock) : List TickUnit :=
  .second :: (if old.minuteDue then
    .minute :: ((if new.minute % 15 = 0 then [.quarterHour] else []) ++ (if new.minute = 0 then [.hour] else []))
  else [])

/-- The minute event of the clock as it stands after the step (R32). -/
def Clock.minuteEvent (c : Clock) : MinuteEvent :=
  { count := c.minuteCount, hour := c.hour, minute := c.minute, weekday := c.weekday, day := c.day,
    suspect := c.suspect }

/-- Sends an event to the tide, level and alarm units. -/
def State.sendTime (e : TimeEvent) (s : State) : State :=
  { s with wires := { s.wires with
      toTide := s.wires.toTide ++ [e], toLevel := s.wires.toLevel ++ [e], toAlarm := s.wires.toAlarm ++ [e] } }

/-- What a second step sends while the part runs (R32, R33, R34). -/
def State.sendSecond (old new : Clock) (s : State) : State :=
  let s1 := { s with wires := { s.wires with ticks := s.wires.ticks ++ ticksOf old new } }
  if old.atCenturyEnd then
    let s2 := s1.sendTime (.timeSet lastInstant 0 true)
    if old.suspect then s2 else s2.sendSuspectChange
  else if old.minuteDue then s1.sendTime (.minute new.minuteEvent)
  else s1

/-- A running watch or clock counts a second; with no second left its expiry is due, an event of its own (log 7). -/
def countSecond : Option Nat → Option Nat
  | none => none
  | some r => some (r - 1)

/-- A second of a STOPPED pump's restart delay: the remaining is decremented; the second that takes it from 1 to 0 is marked
as passed, the decrement being RESTART_DELAY_END's (R161, log 8). -/
def Pump.delaySecond (p : Pump) : Pump :=
  { p with
    delayRemaining := if 1 < p.delayRemaining then p.delayRemaining - 1 else p.delayRemaining
    delayDue := p.delayRemaining == 1 }

/-- A second at a pump: a RUNNING pump counts it (R159), the restart delay of a STOPPED pump counts down (R161, log 8), and
the watches count (log 7). -/
def Pump.second (p : Pump) : Pump :=
  let q := { p with
    proveWatch := countSecond p.proveWatch, lossWatch := countSecond p.lossWatch,
    stoppingClock := countSecond p.stoppingClock }
  match p.state with
  | .running =>
    if p.runSeconds + 1 < 60 then { q with runSeconds := p.runSeconds + 1 }
    else { q with runSeconds := 0, runMinutes := min (p.runMinutes + 1) 4294967295 }
  | .stopped => q.delaySecond
  | .starting => q
  | .stopping => q
  | .tripped => q

/-- A second at a screen: the turn watch and the rundown clock count (06 section 6.1, log 7). -/
def Screen.second (x : Screen) : Screen :=
  { x with turnWatch := countSecond x.turnWatch, rundownClock := countSecond x.rundownClock }

/-- Every pump counts a second. -/
def State.secondAtPumps (s : State) : State :=
  { s with pumps := { s.pumps with records := tab fun p => (s.pump p).second } }

/-- Every screen counts a second. -/
def State.secondAtScreens (s : State) : State := { s with screens := tab fun n => (s.screen n).second }

/-- The clock takes a second step and the divider starts the next second. -/
def State.stepClock (s : State) : State :=
  { s with time := { s.time with divider := 0, clock := s.time.clock.step } }

/-- A second step: in the cold start-up and while held it sends nothing (R35); while held the restart delays count down
(R171); while running everything counts and the ticks and events are sent. -/
def State.secondStep (s : State) : State :=
  match s.phase with
  | .unpowered => s
  | .coldStart => s.stepClock
  | .held => s.stepClock.secondAtPumps
  | .running => (s.stepClock.secondAtPumps.secondAtScreens).sendSecond s.time.clock s.time.clock.step

/-! ## The timer bank (R38 to R41, R46, R47) -/

/-- Whether a tick of a unit steps the timer. -/
def Timer.takes (t : Timer) (u : TickUnit) : Bool := t.running && t.unit == u

/-- The timers whose step at a tick of `u` is an expiry. -/
def State.expiring (s : State) (u : TickUnit) : List TimerNo :=
  indices fun t => (s.timer t).takes u && (s.timer t).count ≤ 1

/-- A tick at a timer whose count is above 1 (R38). -/
def Timer.tick (t : Timer) (u : TickUnit) : Timer :=
  if t.takes u && 1 < t.count then { t with count := t.count - 1 } else t

/-- The oldest unit tick on its way reaches the timer bank (R38): counts above 1 are decremented, and at a timer whose count
is 1 the tick stands until its step, an expiry, is made (log 9). -/
def State.unitTick (s : State) : State :=
  s.whenRunning fun s =>
    match s.wires.ticks with
    | [] => s
    | u :: rest =>
      { s with
        time := { s.time with timers := tab fun t => (s.timer t).tick u }
        wires := { s.wires with
          ticks := rest, dueSteps := s.wires.dueSteps ++ (s.expiring u).map fun t => (t, u) } }

/-- An expiry is told to the owner (R40). -/
def State.tellOwner (o : TimerOwner) (s : State) : State :=
  match o with
  | .none => s
  | .screen n => { s with wires := { s.wires with washRequests := s.wires.washRequests ++ [(n, .interval)] } }
  | .rotation => { s with wires := { s.wires with rotationExpiries := s.wires.rotationExpiries + 1 } }
  | .report => s.setFlag .timer

/-- The timer after an expiry: reloaded, the expiry counted up to 65535 (R38). -/
def Timer.expire (t : Timer) : Timer := { t with count := t.preset, expiries := min (t.expiries + 1) 65535 }

/-- The tick that stands at a timer steps it as it stands now (R38, R47): from 1 it is an expiry, told to the owner; a timer
rewritten meanwhile is stepped as the order left it. -/
def State.stepTimer (t : TimerNo) (u : TickUnit) (s : State) : State :=
  let x := s.timer t
  if x.takes u then
    if x.count ≤ 1 then (s.setTimer t x.expire).tellOwner x.owner else s.setTimer t (x.tick u)
  else s

/-- A timer's expiry (R38, R40). -/
def State.timerExpiry (t : TimerNo) (s : State) : State :=
  s.whenRunning fun s =>
    match takeFirst (fun d => d.1 == t) s.wires.dueSteps with
    | none => s
    | some ((_, u), rest) => ({ s with wires := { s.wires with dueSteps := rest } }).stepTimer t u

/-- The timer a screen owns, if any (R41). -/
def State.timerOfScreen (s : State) (n : ScreenNo) : Option TimerNo :=
  (indices fun t => (s.timer t).owner == .screen n).head?

/-- An interval restart reloads the running timer that the screen owns (R46). -/
def State.reloadInterval (n : ScreenNo) (s : State) : State :=
  match s.timerOfScreen n with
  | none => s
  | some t =>
    if (s.timer t).running then s.setTimer t { s.timer t with count := (s.timer t).preset } else s

/-- The oldest interval restart on its way for the screen reaches the timer bank (R46). -/
def State.intervalRestart (n : ScreenNo) (s : State) : State :=
  s.whenRunning fun s =>
    match takeFirst (fun m => m == n) s.wires.intervalRestarts with
    | none => s
    | some (_, rest) => ({ s with wires := { s.wires with intervalRestarts := rest } }).reloadInterval n

/-! ## Orders -/

/-- Whether SET_TIME's arguments are a date and time in range (R36). -/
def timeArgsOk (year month day hour minute second : Nat) : Bool :=
  2000 ≤ year && year ≤ 2099 && 1 ≤ month && month ≤ 12 && 1 ≤ day && day ≤ monthLength year month &&
    hour ≤ 23 && minute ≤ 59 && second ≤ 59

/-- The clock that SET_TIME loads, the suspect mark clear (R36). -/
def loadedClock (year month day hour minute second : Nat) : Clock :=
  { year := year, month := month, day := day, weekday := weekdayOf (dayNumber year month day), hour := hour,
    minute := minute, second := second, minuteCount := instantOf year month day hour minute, suspect := false }

/-- SET_TIME (R36, R37). -/
def setTimeRule (o : WorkingCopy) (s : State) : Reply :=
  let c := s.time.clock
  if timeArgsOk (o.num 3) (o.num 4) (o.num 5) (o.num 6) (o.num 7) (o.num 8) then
    let new := loadedClock (o.num 3) (o.num 4) (o.num 5) (o.num 6) (o.num 7) (o.num 8)
    reply [word c.minuteCount, word (c.minuteCount / 65536), word (bit c.suspect), word new.weekday]
      ({ s with time := { s.time with clock := new, divider := 0 } }.sendTime
        (.timeSet c.minuteCount new.minuteCount false))
  else refuse .badArgument s

/-- Whether another timer than `t` has the owner (R42 check 7). Owners NONE and REPORT are never held by another. -/
def State.ownerHeld (s : State) (t : TimerNo) (o : TimerOwner) : Bool :=
  match o with
  | .none => false
  | .report => false
  | .rotation => !(indices fun u => u != t && (s.timer u).owner == o).isEmpty
  | .screen _ => !(indices fun u => u != t && (s.timer u).owner == o).isEmpty

/-- A timer rewritten as a whole (R43). -/
def rewriteTimer (t : TimerNo) (o : TimerOwner) (u : TickUnit) (preset : Nat) (start : Bool) (s : State) : Reply :=
  if s.ownerHeld t o then refuse .busy s
  else
    reply [word (s.timer t).count, word (s.timer t).expiries]
      (s.setTimer t { owner := o, unit := u, preset := preset, count := preset, running := start, expiries := 0 })

/-- The rewrite with its owner checked: the checks of R42 from the owner number on. -/
def rewriteChecked (o : WorkingCopy) (t : TimerNo) (u : TickUnit) (start : Bool) (s : State) : Reply :=
  match o.num 4 with
  | 0 => rewriteTimer t .none u (o.num 7) start s
  | 1 => forScreen (o.arg 5) s fun n => rewriteTimer t (.screen n) u (o.num 7) start s
  | 2 => rewriteTimer t .rotation u (o.num 7) start s
  | _ => rewriteTimer t .report u (o.num 7) start s

/-- SET_TIMER (R42, R43, R44): on a running timer with start 0 the preset alone changes. -/
def setTimerRule (o : WorkingCopy) (s : State) : Reply :=
  forSixteen (o.arg 3) s fun t =>
    if 3 < o.num 4 then refuse .badArgument s
    else
      match markOfWord (o.arg 8) with
      | none => refuse .badArgument s
      | some start =>
        if o.num 7 < 1 ∨ 4095 < o.num 7 then refuse .badArgument s
        else if (s.timer t).running && !start then
          reply [word (s.timer t).count, word (s.timer t).expiries]
            (s.setTimer t { s.timer t with preset := o.num 7 })
        else
          match TickUnit.ofWord (o.arg 6) with
          | none => refuse .badArgument s
          | some u => rewriteChecked o t u start s

/-- STOP_TIMER (R45). -/
def stopTimerRule (o : WorkingCopy) (s : State) : Reply :=
  forSixteen (o.arg 3) s fun t =>
    reply [word (s.timer t).count, word (s.timer t).expiries]
      (s.setTimer t { s.timer t with running := false, count := (s.timer t).preset })

/-- A timer at the fall of RESET_N: stopped, its count at the preset (R48). -/
def Timer.fall (t : Timer) : Timer := { t with running := false, count := t.preset }

/-- The time unit at the fall of RESET_N: the timers stop, and the mark is noted for the release (R35, R48). -/
def TimeUnit.fall (t : TimeUnit) : TimeUnit :=
  { t with timers := tab fun i => (sel t.timers i).fall, failedInHold := false, suspectAtFall := t.clock.suspect }

/-! ## Commands -/

/-- CRYSTAL_CONFIRMED (R28). -/
def execCrystalConfirmed (s : State) : Host.Outcome State Fault Refusal := .next s.crystalConfirmed

/-- CRYSTAL_FAILURE (R29). -/
def execCrystalFailure (s : State) : Host.Outcome State Fault Refusal := .next s.crystalFailure

/-- CONFIRM_PERIOD_RESTART (R28). -/
def execConfirmPeriodRestart (s : State) : Host.Outcome State Fault Refusal := .next s.confirmRestart

/-- SECOND_STEP (R31 to R33, R35, R159, R161). -/
def execSecondStep (s : State) : Host.Outcome State Fault Refusal := .next s.secondStep

/-- UNIT_TICK (R38). -/
def execUnitTick (s : State) : Host.Outcome State Fault Refusal := .next s.unitTick

/-- TIMER_EXPIRY (R38, R40). -/
def execTimerExpiry (t : TimerNo) (s : State) : Host.Outcome State Fault Refusal := .next (s.timerExpiry t)

/-- INTERVAL_RESTART (R46). -/
def execIntervalRestart (n : ScreenNo) (s : State) : Host.Outcome State Fault Refusal := .next (s.intervalRestart n)

/-- SET_TIME (R36). -/
def execSetTime (s : State) : Host.Outcome State Fault Refusal := .next (s.takeImmediate .setTime setTimeRule)

/-- SET_TIMER (R42). -/
def execSetTimer (s : State) : Host.Outcome State Fault Refusal := .next (s.takeImmediate .setTimer setTimerRule)

/-- STOP_TIMER (R45). -/
def execStopTimer (s : State) : Host.Outcome State Fault Refusal := .next (s.takeImmediate .stopTimer stopTimerRule)

end Sys2Proof.Machine
end

