-- ==== Sys2Proof/Machine/Wash.lean ====
section
/-!
DEFINITION. The wash unit (07): header pressure and suspension, the running-pump count, the grant, SET_WASH.
-/

namespace Sys2Proof.Machine

/-! ## The grant (R143, R118) -/

/-- The grant condition (R143). -/
def Wash.grantable (w : Wash) : Bool :=
  w.slots < w.capacity && w.pressurised && 1 ≤ w.running && !w.queue.isEmpty

/-- A screen granted a slot enters STARTING (R118, R114). -/
def Screen.granted (x : Screen) : Screen :=
  { x with state := .starting, fast := x.choked, turnWatch := some x.turnTimeout }

/-- A slot granted to a screen, which stalls within the grant if its OVERLOAD is active (R118, R143). -/
def State.grantTo (n : ScreenNo) (s : State) : State :=
  let s1 := s.setScreen n (s.screen n).granted
  if (s.screen n).overload then s1.stallScreen n else s1

/-- A grant tests the condition and, if it holds, serves the head of the queue (R143). -/
def State.grant (s : State) : State :=
  s.whenRunning fun s =>
    if s.wash.grantable then
      match s.wash.queue with
      | [] => s
      | (n, _) :: rest => (s.setWash { s.wash with queue := rest, slots := s.wash.slots + 1 }).grantTo n
    else s

/-! ## Header pressure and suspension (R138, R139, R145) -/

/-- A suspended screen (R125). -/
def Screen.suspended (x : Screen) : Screen := { x with state := .queued, fast := false, turnWatch := none }

/-- The screens that a suspension reaches, with their classes, ascending (R142, R145). -/
def State.suspending (s : State) : List (ScreenNo × WashClass) :=
  (indices fun n => (s.screen n).state.holdsSlot).map fun n => (n, (s.screen n).washClass)

/-- A suspension (R125, R142, R145). -/
def State.suspend (s : State) : State :=
  { s with
    screens := tab fun n => if (s.screen n).state.holdsSlot then (s.screen n).suspended else s.screen n
    wash := { s.wash with slots := 0, queue := reenter s.suspending s.wash.queue } }

/-- The pressure test (R138, R139). -/
def Wash.passes (w : Wash) (h : Measure) : Bool := h.quality == .good && (w.minPressure : Int) ≤ h.value

/-- The header after an H report, the suspension apart (R138). -/
def Wash.hear (h : Measure) (w : Wash) : Wash :=
  if w.passes h then { w with lastH := h, lossCount := 0, pressurised := true }
  else
    let count := min (w.lossCount + 1) 60
    { w with lastH := h, lossCount := count, pressurised := w.pressurised && count < w.tolerance }

/-- An H report at the wash unit (R138). -/
def State.hReport (s : State) : State :=
  s.whenRunning fun s =>
    match s.wires.hReports with
    | [] => s
    | h :: rest =>
      let s1 := ({ s with wires := { s.wires with hReports := rest } }).setWash (s.wash.hear h)
      if s.wash.pressurised && !s1.wash.pressurised then s1.suspend else s1

/-- A running-pump report at the wash unit (R140). -/
def State.runningPumpReport (s : State) : State :=
  s.whenRunning fun s =>
    match s.wires.runningReports with
    | [] => s
    | k :: rest =>
      ({ s with wires := { s.wires with runningReports := rest } }).setWash { s.wash with running := k }

/-! ## SET_WASH (R147, R148) -/

/-- SET_WASH (R147). A refusal at check 4 writes answer word 3 alone. -/
def setWashRule (o : WorkingCopy) (s : State) : Reply :=
  let w := s.wash
  if o.num 3 < 1 ∨ 3 < o.num 3 ∨ 2000 < o.num 4 ∨ o.num 5 < 1 ∨ 60 < o.num 5 then refuse .badArgument s
  else if o.num 3 < w.slots then (s, .wrongState, [0, 0, 0, word w.slots])
  else
    reply [word w.capacity, word w.minPressure, word w.tolerance, word w.slots]
      (s.setWash { w with capacity := o.num 3, minPressure := o.num 4, tolerance := o.num 5 })

/-! ## Reset (R150) -/

/-- The wash unit at the fall of RESET_N (R150). -/
def Wash.fall (w : Wash) : Wash :=
  { w with
    slots := 0, pressurised := false, lossCount := 0, running := 0
    lastH := { w.lastH with quality := .filling }, queue := [] }

/-! ## Commands -/

/-- H_REPORT (R138). -/
def execHReport (s : State) : Host.Outcome State Fault Refusal := .next s.hReport

/-- RUNNING_PUMP_REPORT (R140). -/
def execRunningPumpReport (s : State) : Host.Outcome State Fault Refusal := .next s.runningPumpReport

/-- GRANT (R143). -/
def execGrant (s : State) : Host.Outcome State Fault Refusal := .next s.grant

/-- SET_WASH (R147). -/
def execSetWash (s : State) : Host.Outcome State Fault Refusal := .next (s.takeImmediate .setWash setWashRule)

end Sys2Proof.Machine
end

