-- ==== Sys2Proof/Machine/Reset.lean ====
section
/-!
DEFINITION. Power, start-up and RESET_N (01 section 1.5, and the resets of every chapter).
-/

namespace Sys2Proof.Machine

/-! ## Power (R20, R21) -/

/-- The application of power: every unit at its cold-reset state, the straps read, the cold start-up under way; RESET_N
stands as the host drives it (R20, R21). -/
def State.powerOn (screenStrap pumpStrap : BitVec 3) (s : State) : State :=
  { State.reset with
    pending := s.pending, resetLow := s.resetLow, fittedScreens := fittedCount screenStrap
    fittedPumps := fittedCount pumpStrap, duty := Duty.cold (fittedCount pumpStrap), draws := s.draws }

/-- The supply is lost: the part stops (R20). -/
def State.powerOff (s : State) : State := { s with phase := .unpowered }

/-! ## The fall (R22) -/

/-- The screens at the fall of RESET_N; records that are not fitted keep their values (R113, R136). -/
def State.screensFall (s : State) : Vector Screen 6 :=
  tab fun n => if s.screenFitted n then (s.screen n).fall else s.screen n

/-- The part held: the registers at 0, every unit at its warm-reset state, exchange memory and the intake queue kept (R22,
R35, R48, R56, R61, R67, R85, R111, R136, R150, R171, R197); what was on its way reaches no unit (log 2). -/
def State.hold (s : State) : State :=
  { s with
    phase := .held, port := Port.cold, time := s.time.fall, level := s.level.fall, screens := s.screensFall
    wash := s.wash.fall, pumps := s.pumpsFall, duty := s.duty.fall s.fittedPumps, wires := Wires.empty }

/-- RESET_N falls (R22). Before the end of the cold start-up the line alone is noted (R20). -/
def State.resetFall (s : State) : State :=
  match s.phase with
  | .unpowered => { s with resetLow := true }
  | .coldStart => { s with resetLow := true }
  | .running => { s with resetLow := true }.hold
  | .held => s

/-- The cold start-up completes (R20): STARTED is set and the restart delays begin (R170), or, with RESET_N low, the part is
held (log 13). -/
def State.startUp (s : State) : State :=
  match s.phase with
  | .coldStart =>
    if s.resetLow then s.delaysBegin.hold else { s.delaysBegin with phase := .running }.setFlag .started
  | .unpowered => s
  | .running => s
  | .held => s

/-! ## The release (R23) -/

/-- The tag copied at the take of an entry that a unit holds (R13). -/
def State.heldTag (s : State) (e : Entry) : Option Word :=
  match (indices fun n => (s.screen n).holds e).head? with
  | some n => (s.screen n).washOrder.map fun o => o.tag
  | none => if s.duty.holds e then s.duty.changeOrder.map fun o => o.tag else none

/-- Every reference to an entry dropped (R23). -/
def State.dropHolders (e : Entry) (s : State) : State :=
  { s with
    screens := tab fun n => if (s.screen n).holds e then { s.screen n with washOrder := none } else s.screen n
    duty := if s.duty.holds e then { s.duty with changeOrder := none } else s.duty }

/-- The sweep of one entry (R23). -/
def State.sweepEntry (s : State) (e : Entry) : State :=
  match s.hand e with
  | .posted => s.complete e none .restarted []
  | .taken => (s.dropHolders e).complete e (s.heldTag e) .restarted []
  | .cancel => (s.dropHolders e).complete e (s.heldTag e) .restarted []
  | .free => s
  | .done => s

/-- The sweep of the order table in index order, the intake queue emptied (R23). -/
def State.sweep (s : State) : State := { (List.finRange 32).foldl State.sweepEntry s with intake := [] }

/-- What the time unit does at the release (R35). -/
def State.releaseTime (s : State) : State :=
  let s1 := s.setFlagIf s.time.failedInHold .timebase
  if s.time.clock.suspect && !s.time.suspectAtFall then s1.sendSuspectChange else s1

/-- What the tide unit does at the release (R85). -/
def State.releaseTide (s : State) : State :=
  s.recompute { s.tide with now := s.time.clock.minuteCount, suspect := s.time.clock.suspect }

/-- What the alarm unit does at the release (R111). -/
def State.releaseAlarms (s : State) : State :=
  ({ s with alarm :=
      s.alarm.release s.time.clock.minuteCount s.time.clock.suspect s.tide.liveEdition }).sendActionChange

/-- What the pump unit does at the release: availability re-evaluated, one report for each fitted pump (R171). -/
def State.releasePumps (s : State) : State :=
  s.fittedPumpList.foldl (fun (t : State) p => t.sendReport p false) (s.fittedPumpList.foldl State.reevaluate s)

/-- What the units do at the release after the sweep (R35, R85, R111, R136, R171, R177; log 21 for their order). -/
def State.releaseUnits (s : State) : State :=
  let t := (s.releaseTime.releaseTide.releaseAlarms.sendChoke false).releasePumps
  t.dutyEvent t.duty

/-- RESET_N is released (R23). -/
def State.resetRelease (s : State) : State :=
  match s.phase with
  | .unpowered => { s with resetLow := false }
  | .coldStart => { s with resetLow := false }
  | .running => { s with resetLow := false }
  | .held => (({ s with resetLow := false, phase := .running }.sweep).setFlag .started).releaseUnits

/-! ## Commands -/

/-- POWER_APPLICATION (R20, R21). -/
def execPowerApplication (screenStrap pumpStrap : BitVec 3) (s : State) : Host.Outcome State Fault Refusal :=
  .next (s.powerOn screenStrap pumpStrap)

/-- COLD_START_UP_COMPLETION (R20). -/
def execColdStartUpCompletion (s : State) : Host.Outcome State Fault Refusal := .next s.startUp

/-- SUPPLY_LOSS (R20). -/
def execSupplyLoss (s : State) : Host.Outcome State Fault Refusal := .next s.powerOff

/-- RESET_N_FALL (R22). -/
def execResetNFall (s : State) : Host.Outcome State Fault Refusal := .next s.resetFall

/-- RESET_N_RELEASE (R23). -/
def execResetNRelease (s : State) : Host.Outcome State Fault Refusal := .next s.resetRelease

end Sys2Proof.Machine
end

