-- ==== Sys2Proof/Machine/Dispatch.lean ====
section
/-!
DEFINITION. exec: one arm per command, in the order of spec/opcode_table.json, each a direct call of that command's meaning.
-/

namespace Sys2Proof.Machine

def exec (i : Instr) (s : State) : Host.Outcome State Fault Refusal :=
  match i with
  | .powerApplication screenStrap pumpStrap => Sys2Proof.Machine.execPowerApplication screenStrap pumpStrap s
  | .coldStartUpCompletion => Sys2Proof.Machine.execColdStartUpCompletion s
  | .supplyLoss => Sys2Proof.Machine.execSupplyLoss s
  | .resetNFall => Sys2Proof.Machine.execResetNFall s
  | .resetNRelease => Sys2Proof.Machine.execResetNRelease s
  | .arrival entry => Sys2Proof.Machine.execArrival entry s
  | .withdrawal entry => Sys2Proof.Machine.execWithdrawal entry s
  | .giveBack entry => Sys2Proof.Machine.execGiveBack entry s
  | .cancelRequest entry => Sys2Proof.Machine.execCancelRequest entry s
  | .handIllegal entry value => Sys2Proof.Machine.execHandIllegal entry value s
  | .entryWordWrite entry offset value => Sys2Proof.Machine.execEntryWordWrite entry offset value s
  | .bulkWrite addr value => Sys2Proof.Machine.execBulkWrite addr value s
  | .summaryWrite value => Sys2Proof.Machine.execSummaryWrite value s
  | .enableWrite value => Sys2Proof.Machine.execEnableWrite value s
  | .faultWrite value => Sys2Proof.Machine.execFaultWrite value s
  | .readOnly value => Sys2Proof.Machine.execReadOnly value s
  | .unknownKind => Sys2Proof.Machine.execUnknownKind s
  | .describe => Sys2Proof.Machine.execDescribe s
  | .snapshot => Sys2Proof.Machine.execSnapshot s
  | .setTime => Sys2Proof.Machine.execSetTime s
  | .setTimer => Sys2Proof.Machine.execSetTimer s
  | .stopTimer => Sys2Proof.Machine.execStopTimer s
  | .setChannel => Sys2Proof.Machine.execSetChannel s
  | .setSea => Sys2Proof.Machine.execSetSea s
  | .loadTide => Sys2Proof.Machine.execLoadTide s
  | .swapTide => Sys2Proof.Machine.execSwapTide s
  | .setAlarm => Sys2Proof.Machine.execSetAlarm s
  | .ackAlarm => Sys2Proof.Machine.execAckAlarm s
  | .setScreen => Sys2Proof.Machine.execSetScreen s
  | .wash => Sys2Proof.Machine.execWash s
  | .holdScreen => Sys2Proof.Machine.execHoldScreen s
  | .releaseScreen => Sys2Proof.Machine.execReleaseScreen s
  | .resetScreen => Sys2Proof.Machine.execResetScreen s
  | .setWash => Sys2Proof.Machine.execSetWash s
  | .setPump => Sys2Proof.Machine.execSetPump s
  | .holdPump => Sys2Proof.Machine.execHoldPump s
  | .releasePump => Sys2Proof.Machine.execReleasePump s
  | .resetPump => Sys2Proof.Machine.execResetPump s
  | .setDemand => Sys2Proof.Machine.execSetDemand s
  | .setRoster => Sys2Proof.Machine.execSetRoster s
  | .change => Sys2Proof.Machine.execChange s
  | .lockDuty => Sys2Proof.Machine.execLockDuty s
  | .setChoke => Sys2Proof.Machine.execSetChoke s
  | .crystalConfirmed => Sys2Proof.Machine.execCrystalConfirmed s
  | .crystalFailure => Sys2Proof.Machine.execCrystalFailure s
  | .secondStep => Sys2Proof.Machine.execSecondStep s
  | .unitTick => Sys2Proof.Machine.execUnitTick s
  | .timerExpiry timer => Sys2Proof.Machine.execTimerExpiry timer s
  | .intervalRestart screen => Sys2Proof.Machine.execIntervalRestart screen s
  | .minuteEventTide => Sys2Proof.Machine.execMinuteEventTide s
  | .minuteEventLevel => Sys2Proof.Machine.execMinuteEventLevel s
  | .minuteEventAlarm => Sys2Proof.Machine.execMinuteEventAlarm s
  | .timeSetEventTide => Sys2Proof.Machine.execTimeSetEventTide s
  | .timeSetEventLevel => Sys2Proof.Machine.execTimeSetEventLevel s
  | .timeSetEventAlarm => Sys2Proof.Machine.execTimeSetEventAlarm s
  | .suspectChangeEventTide => Sys2Proof.Machine.execSuspectChangeEventTide s
  | .suspectChangeEventAlarm => Sys2Proof.Machine.execSuspectChangeEventAlarm s
  | .editionChangeEvent => Sys2Proof.Machine.execEditionChangeEvent s
  | .scanCompletion codes => Sys2Proof.Machine.execScanCompletion codes s
  | .seaReport => Sys2Proof.Machine.execSeaReport s
  | .rateReport => Sys2Proof.Machine.execRateReport s
  | .differentialReport => Sys2Proof.Machine.execDifferentialReport s
  | .wReport => Sys2Proof.Machine.execWReport s
  | .wReportDuty => Sys2Proof.Machine.execWReportDuty s
  | .hReport => Sys2Proof.Machine.execHReport s
  | .runningPumpReport => Sys2Proof.Machine.execRunningPumpReport s
  | .grant => Sys2Proof.Machine.execGrant s
  | .washRequest screen => Sys2Proof.Machine.execWashRequest screen s
  | .turnEdge screen level => Sys2Proof.Machine.execTurnEdge screen level s
  | .turnWatchExpiry screen => Sys2Proof.Machine.execTurnWatchExpiry screen s
  | .rundownExpiry screen => Sys2Proof.Machine.execRundownExpiry screen s
  | .overloadEvent screen level => Sys2Proof.Machine.execOverloadEvent screen level s
  | .washCancel screen => Sys2Proof.Machine.execWashCancel screen s
  | .chokeChangeEvent => Sys2Proof.Machine.execChokeChangeEvent s
  | .actionChangeEvent => Sys2Proof.Machine.execActionChangeEvent s
  | .startRequest => Sys2Proof.Machine.execStartRequest s
  | .stopRequest => Sys2Proof.Machine.execStopRequest s
  | .proofEdge pump => Sys2Proof.Machine.execProofEdge pump s
  | .proofDrop pump => Sys2Proof.Machine.execProofDrop pump s
  | .motorFaultEvent pump => Sys2Proof.Machine.execMotorFaultEvent pump s
  | .motorFaultClear pump => Sys2Proof.Machine.execMotorFaultClear pump s
  | .proveWatchExpiry pump => Sys2Proof.Machine.execProveWatchExpiry pump s
  | .lossWatchExpiry pump => Sys2Proof.Machine.execLossWatchExpiry pump s
  | .stoppingClockExpiry pump => Sys2Proof.Machine.execStoppingClockExpiry pump s
  | .restartDelayEnd pump => Sys2Proof.Machine.execRestartDelayEnd pump s
  | .pumpChangeReport => Sys2Proof.Machine.execPumpChangeReport s
  | .changeCancel => Sys2Proof.Machine.execChangeCancel s
  | .rotationExpiry => Sys2Proof.Machine.execRotationExpiry s
  | .confirmPeriodRestart => Sys2Proof.Machine.execConfirmPeriodRestart s

end Sys2Proof.Machine
end

