-- ==== Sys2Proof/Machine/Step.lean ====
section
/-!
DEFINITION. One step of the part: the command at the front of the queue (log 1). No word spells a command (log 5).
-/

namespace Sys2Proof.Machine

/-- Takes the command at the front of the queue and answers what it does on the state with the queue's rest; on an empty
queue one source cycle passes (log 6). -/
def step (s : State) : Host.Outcome State Fault Refusal :=
  match s.pending with
  | [] => .next s.sourceCycle
  | c :: rest => exec c { s with pending := rest }

/-- The state with the command that the word spells put at the front of its queue: no row of the table gives bits, so none is
spelt and the state is unchanged (log 5). -/
def State.withFetchWord (s : State) (nbits w : Nat) : State :=
  match Sys2Proof.decodeTableWord nbits w with
  | none => s
  | some c => { s with pending := c :: s.pending }

end Sys2Proof.Machine
end

