-- ==== Sys2Proof/Safety.lean ====
section
/-!
DEFINITION. What counts as a safe step, and the words that the statements share: an order at the head of the intake queue, the
state that its take leaves to its rule, its completion, and the invariants of the part.
-/

namespace Sys2Proof

open Sys2Proof.Machine

/-- A state property that every step from a state which has it keeps. -/
def Kept (inv : State → Prop) : Prop := ∀ s t, inv s → step s = .next t → inv t

/-! ## Takes (R10, R13) -/

/-- The part runs and entry `e`, of the given kind, is the head of the intake queue. -/
def AtHead (s : State) (e : Entry) (rest : List Entry) (kind : Nat) : Prop :=
  s.phase = .running ∧ s.intake = e :: rest ∧ s.entryWord e 1 = word kind

/-- An argument word of an entry (11 section 11.3). -/
def argWord (s : State) (e : Entry) (w : Nat) : Word := s.entryWord e w

/-- An argument as a number. -/
def argNum (s : State) (e : Entry) (w : Nat) : Nat := (s.entryWord e w).toNat

/-- An argument as a signed value (R198). -/
def argInt (s : State) (e : Entry) (w : Nat) : Int := (s.entryWord e w).toInt

/-- The state in which the owning unit's rule runs: the index has left the queue and the hand is TAKEN (R10). -/
def takenState (s : State) (e : Entry) (rest : List Entry) : State := ({ s with intake := rest }).setHand e .taken

/-- The completion of the entry taken from `s`, on the state `t` that the owning unit's rule leaves (R13). -/
def answered (s : State) (e : Entry) (r : OrderResult) (answers : List Word) (t : State) : State :=
  t.complete e (some (s.entryWord e 2)) r answers

/-- The order of entry `e` ends within its take with a result and an answer, the owning unit's rule leaving `t` (R10, R13). -/
def Ends (c : Instr) (s : State) (e : Entry) (r : OrderResult) (answers : List Word) (t : State) : Prop :=
  exec c s = .next (answered s e r answers t)

/-- The order is refused: nothing but the entry, its hand and ORDER_DONE changes (R12). -/
def Refused (c : Instr) (s : State) (e : Entry) (rest : List Entry) (r : OrderResult) : Prop :=
  Ends c s e r [] (takenState s e rest)

/-- A host write refused as an exchange fault, and nothing else changed (R18): FAULT keeps its first record and the more mark
is set at a further one, and EXCHANGE is set. -/
def faulted (s : State) (kind : FaultKind) (index : Entry) (offset : Fin 32) : State :=
  { s with port := { s.port with
      summary := s.port.summary ||| Flag.exchange.mask
      fault :=
        if s.port.fault.kind = .none then { kind := kind, more := false, index := index, offset := offset }
        else { s.port.fault with more := true } } }

/-- A state with flags added to SUMMARY. -/
def withFlag (s : State) (f : Flag) : State := { s with port := { s.port with summary := s.port.summary ||| f.mask } }

/-- The orders whose first argument is a screen, a pump, or one of sixteen records, with their kinds (R200). -/
def screenOrders : List (Instr × Nat) :=
  [(.setScreen, 0x0C), (.wash, 0x0D), (.holdScreen, 0x0E), (.releaseScreen, 0x0F), (.resetScreen, 0x10)]
def pumpOrders : List (Instr × Nat) :=
  [(.setPump, 0x12), (.holdPump, 0x13), (.releasePump, 0x14), (.resetPump, 0x15)]
def sixteenOrders : List (Instr × Nat) :=
  [(.setTimer, 0x04), (.stopTimer, 0x05), (.setChannel, 0x06), (.setAlarm, 0x0A)]

/-- The words of a snapshot: 8 and those of each section whose position the mask sets (R26). -/
def snapshotWordCount (s : State) (mask : Word) : Nat :=
  8 + (if mask.getLsbD 0 then 72 else 0) + (if mask.getLsbD 1 then 8 + 4 * s.tide.liveEdition.length else 0) +
    (if mask.getLsbD 2 then 128 else 0) + (if mask.getLsbD 3 then 12 + 12 * s.fittedScreens else 0) +
    (if mask.getLsbD 4 then 12 + 12 * s.fittedPumps else 0) + (if mask.getLsbD 5 then 64 else 0)

/-! ## The words of a snapshot (11 section 11.5, R198), each word the sum of its fields at their places -/

/-- An instant, the low word first; absent as 0xFFFF in both words (R198). -/
def instantShown : Option Nat → List Word
  | none => [0xFFFF, 0xFFFF]
  | some t => [word t, word (t / 65536)]

/-- A mark in the place with weight `w`. -/
def markShown (b : Bool) (w : Nat) : Nat := if b then w else 0

/-- The channel block. -/
def channelShown (c : Channel) : List Word :=
  [word (c.quality.code + 16 * c.filter.length), signedWord c.value, word c.lastRaw, word c.runLength]

/-- The sea block, an empty history's ends being free. -/
def seaShown (l : Level) (free : Nat → Word) : List Word :=
  [signedWord l.seaValue, word (l.seaQuality.code + 16 * l.gauge.code), word l.band, signedWord (rateOf l.history),
    word (markShown (rateValid l.history) 1 + 256 * l.history.length),
    (l.history.head?.map fun h => signedWord h.1).getD (free 0),
    (l.history.getLast?.map fun h => signedWord h.1).getD (free 1),
    word (l.history.countP fun h => h.2 == .lost)]

/-- The prediction block and the live edition's events. -/
def tideShown (t : Tide) : List Word :=
  [word (markShown t.valid 1 + markShown t.short 2), signedWord t.level] ++
    instantShown (t.nextHigh.map Prod.fst) ++ [signedWord ((t.nextHigh.map Prod.snd).getD 0)] ++
    instantShown (t.nextLow.map Prod.fst) ++ [signedWord ((t.nextLow.map Prod.snd).getD 0)] ++
    t.liveEdition.flatMap fun e => instantShown (some e.time) ++ [signedWord e.height, word e.kind.code]

/-- The alarm block; the floor and the hold state are the unit's. -/
def alarmShown (u : AlarmUnit) (a : Alarm) : List Word :=
  let word1 :=
    match a.kind with
    | .tideLead => word a.lead
    | .clock => word (256 * a.hour + a.minute)
    | _ => signedWord a.threshold
  let field2 :=
    match a.kind with
    | .tideLead => a.which.code
    | .clock => if a.mode = .date then 512 + a.day else a.weekdays.toNat
    | _ => a.hysteresis
  [word (a.kind.code + markShown a.enabled 8 + 16 * a.state.code + markShown a.inputLost 128 + 256 * a.actions.code +
      4096 * a.derateValue),
    word1, word (field2 + 1024 * u.floor.getD 7 + markShown u.holdState 32768),
    word (a.persistence + 256 * a.count)] ++ instantShown a.raised ++ instantShown a.armed

/-- The wash header block, a queue place past the tail as 0xFF. -/
def washShown (s : State) : List Word :=
  let w := s.wash
  let place (i : Nat) := (w.queue[i]?.map fun m => m.1.1 + markShown (m.2 == .urgent) 128).getD 255
  [word w.capacity, word w.minPressure, word w.tolerance,
    word (w.slots + markShown w.pressurised 16 + markShown s.chokeState 32), word w.lossCount, word w.running,
    word w.queue.length, signedWord w.lastH.value, word (place 0 + 256 * place 1), word (place 2 + 256 * place 3),
    word (place 4 + 256 * place 5), word w.lastH.quality.code]

/-- The screen block, an absent wash order's entry and turns being free. -/
def screenShown (n : ScreenNo) (x : Screen) (free : Nat → Word) : List Word :=
  [word (n.1 + 8 * x.service.code + 16 * x.state.code + markShown x.choked 256 + markShown x.again 512 +
      markShown x.intervalRestart 1024 + markShown x.lastDp.valid 2048),
    word (x.causes.code + 256 * x.stored.code), word (x.turnsWanted + 16 * x.turnsDone + 256 * x.configTurns),
    signedWord x.startThreshold, signedWord x.chokeThreshold, word x.turnTimeout, word x.rundownTime,
    (x.washOrder.map fun o => word (32768 + o.entry.1 + 256 * o.turns)).getD (free (18 + n.1) &&& 0x0F1F),
    word x.washCount] ++ instantShown x.lastWashEnd ++ [signedWord x.lastDp.value]

/-- A roster in two words, four bits a position, 0xF past its end. -/
def rosterShown (r : List PumpNo) : List Word :=
  let place (i : Nat) := (r[i]?.map fun p => p.1).getD 15
  [word (place 0 + 16 * place 1 + 256 * place 2 + 4096 * place 3), word (place 4 + 16 * place 5 + 0xFF00)]

/-- The duty block; what a move or an absent change order does not have is free, but word 5 is 0 with no move. -/
def dutyShown (d : Duty) (free : Nat → Word) : List Word :=
  [word (d.demand + 16 * d.chokeLimit + 256 * d.limit),
    word (markShown d.lock 1 + markShown d.rotationPending 2 + markShown d.shortfall 4 + markShown d.chokeCopy 8 +
      markShown d.holdCopy 16 + 32 * d.floorCopy.getD 7)] ++ rosterShown d.roster ++
    (match d.move with
     | .none => [free 24 &&& 4, 0]
     | .start p => [1 ||| (free 24 &&& 4), word p.1 ||| (free 25 &&& 0x0F00)]
     | .change i o origin => [word (2 + 4 * origin.code), word (i.1 + 256 * o.1)]) ++
    [(d.changeOrder.map fun o => word (32768 + o.entry.1)).getD (free 26 &&& 0x001F)] ++
    (d.savedRoster.map rosterShown).getD [0xFFFF, 0xFFFF] ++
    [signedWord d.lastW.value, word d.lastW.quality.code,
      word (d.roster.countP fun p => (sel d.view p).state == .running && !(sel d.view p).stopSent)]

/-- The pump block. -/
def pumpShown (p : PumpNo) (x : Pump) : List Word :=
  [word (p.1 + 8 * x.service.code + 16 * x.state.code + markShown x.available 128 + 256 * stopCauseCode x.lastStop),
    word x.proveTime, word x.lossTolerance, word x.stoppingTime, word x.restartDelay, signedWord x.minSubmergence,
    word x.delayRemaining, word x.runMinutes, word (x.runMinutes / 65536), word x.startCount, word x.submergenceCount,
    word (markShown x.proof 1 + markShown x.motorFault 2)]

/-- The timer block, the owner number being free unless a screen owns the timer. -/
def timerShown (t : TimerNo) (x : Timer) (free : Nat → Word) : List Word :=
  let rest := x.owner.code + 256 * x.unit.code + markShown x.running 32768
  [match x.owner with
   | .screen n => word (rest + 16 * n.1)
   | _ => word rest ||| (free (2 + t.1) &&& 0x0070),
    word x.preset, word x.count, word x.expiries]

/-- The words of a snapshot of the state: the header, then each section that the mask selects, in mask order. `free` gives
what stands in a field that has no value to show (log 11). -/
def snapshotLayout (s : State) (mask : Word) (free : Nat → Word) : List Word :=
  let part (i : Nat) (words : List Word) := if mask.getLsbD i then words else []
  [mask, word (snapshotWordCount s mask), word s.time.clock.minuteCount, word (s.time.clock.minuteCount / 65536),
    word (markShown s.time.clock.suspect 1 + 2 * s.time.base.code), word (s.fittedScreens + 256 * s.fittedPumps),
    word (32768 * s.tide.live.code + s.tide.liveEdition.length), 1] ++
  part 0 (((List.finRange 16).flatMap fun i => channelShown (sel s.level.channels i)) ++ seaShown s.level free) ++
  part 1 (tideShown s.tide) ++
  part 2 ((List.finRange 16).flatMap fun i => alarmShown s.alarm (sel s.alarm.records i)) ++
  part 3 (washShown s ++
    ((List.finRange 6).filter fun n => n.1 < s.fittedScreens).flatMap fun n => screenShown n (s.screen n) free) ++
  part 4 (dutyShown s.duty free ++
    ((List.finRange 6).filter fun p => p.1 < s.fittedPumps).flatMap fun p => pumpShown p (s.pump p)) ++
  part 5 ((List.finRange 16).flatMap fun t => timerShown t (s.timer t) free)

/-- The codes of R198. -/
def codesOfR198 : Prop :=
  [Hand.free, .posted, .taken, .done, .cancel].map Hand.code = [0, 1, 2, 3, 4] ∧
    [Edition.a, .b].map Edition.code = [0, 1] ∧ [TideKind.low, .high].map TideKind.code = [2, 1] ∧
    [TimeBase.rcStart, .crystal, .rcFallback].map TimeBase.code = [0, 1, 2] ∧
    [TimerOwner.none, .screen 0, .rotation, .report].map TimerOwner.code = [0, 1, 2, 3] ∧
    (∀ n, (TimerOwner.screen n).code = 1) ∧
    [TickUnit.second, .minute, .quarterHour, .hour].map TickUnit.code = [0, 1, 2, 3] ∧
    [Quality.unconfigured, .filling, .good, .broken, .over, .stuck].map Quality.code = [0, 1, 2, 3, 4, 5] ∧
    [SeaQuality.good, .disagree, .single, .lost].map SeaQuality.code = [0, 1, 2, 3] ∧
    [Gauge.mean, .g0, .g1, .held].map Gauge.code = [0, 1, 2, 3] ∧
    [AlarmKind.levelHigh, .levelLow, .surgeHigh, .surgeLow, .riseRate, .fallRate, .tideLead, .clock].map AlarmKind.code =
      [0, 1, 2, 3, 4, 5, 6, 7] ∧
    [AlarmState.quiet, .pending, .raised, .standing, .clearedUnack].map AlarmState.code = [0, 1, 2, 3, 4] ∧
    (∀ w d h, ({ washAll := w, derate := d, holdRotation := h } : ActionSet).code =
      markShown w 1 + markShown d 2 + markShown h 4) ∧
    [Which.high, .low, .both].map Which.code = [1, 2, 3] ∧ [ClockMode.weekdays, .date].map ClockMode.code = [0, 1] ∧
    [ScreenState.parked, .queued, .starting, .washing, .rundown, .stalled].map ScreenState.code = [0, 1, 2, 3, 4, 5] ∧
    [ScreenService.inService, .held].map ScreenService.code = [0, 1] ∧
    (∀ i d t o, ({ interval := i, differential := d, tide := t, order := o } : CauseSet).code =
      markShown i 1 + markShown d 2 + markShown t 4 + markShown o 8) ∧
    [PumpState.stopped, .starting, .running, .stopping, .tripped].map PumpState.code = [0, 1, 2, 3, 4] ∧
    [PumpService.inService, .outOfService].map PumpService.code = [0, 1] ∧
    [none, some .proofFail, some .proofLost, some .motorTrip, some .submergence, some .held, some .duty].map stopCauseCode =
      [0, 1, 2, 3, 4, 5, 6] ∧
    [Origin.reconcile, .order].map Origin.code = [0, 1]

/-- The commands that act in a running part alone: host writes, takes, deliveries, scans, expiries of watches and the grant. -/
def runningOnly : Instr → Bool
  | .powerApplication _ _ | .coldStartUpCompletion | .supplyLoss | .resetNFall | .resetNRelease | .crystalConfirmed
  | .crystalFailure | .confirmPeriodRestart | .secondStep | .turnEdge _ _ | .overloadEvent _ _ | .proofEdge _
  | .proofDrop _ | .motorFaultEvent _ | .motorFaultClear _ | .restartDelayEnd _ => false
  | _ => true

/-! ## The calendar (R31) -/

/-- The days of a month (R31). -/
def monthDays (year month : Nat) : Nat :=
  if month = 2 then (if year % 4 = 0 then 29 else 28) else if month ∈ [4, 6, 9, 11] then 30 else 31

/-- The whole days from 2000-01-01 to a date: the years before it, the months before it in its year, the days before it in its
month (02, Converting a date to an instant). -/
def daysSince2000 (year month day : Nat) : Nat :=
  ((List.range (year - 2000)).map fun k => if (2000 + k) % 4 = 0 then 366 else 365).sum +
    ((List.range (month - 1)).map fun k => monthDays year (k + 1)).sum + (day - 1)

/-- Whether SET_TIME's arguments are in range (R36). -/
def dateInRange (year month day hour minute second : Nat) : Prop :=
  2000 ≤ year ∧ year ≤ 2099 ∧ 1 ≤ month ∧ month ≤ 12 ∧ 1 ≤ day ∧ day ≤ monthDays year month ∧ hour ≤ 23 ∧ minute ≤ 59 ∧
    second ≤ 59

/-! ## Messages and records -/

/-- The state with other messages on their way. -/
def withWires (s : State) (w : Wires) : State := { s with wires := w }

/-- The table of R50 before the stuck check: quality and filter of a configured channel after a code; `same` says that the code
is that of the previous scan. -/
def sampleOutcome (c : Channel) (code : Nat) (same : Bool) : Quality × List Nat :=
  if code < c.faultLow then (.broken, [])
  else if c.faultHigh < code then (.over, [])
  else match c.quality with
    | .unconfigured => (.unconfigured, c.filter)
    | .filling => if c.filter.length + 1 = 4 then (.good, c.filter ++ [code]) else (.filling, c.filter ++ [code])
    | .good => (.good, c.filter.drop 1 ++ [code])
    | .broken => (.filling, [code])
    | .over => (.filling, [code])
    | .stuck => if same then (.stuck, c.filter) else (.filling, [code])

/-- The value of four codes before the clamp, rounded down (R51). -/
def scaledValue (c : Channel) (filter : List Nat) : Int :=
  c.engLow + ((filter.sum : Int) - 4 * c.rawLow) * (c.engHigh - c.engLow) / (4 * ((c.rawHigh : Int) - c.rawLow))

/-- The four words of event `i` of a LOAD_TIDE payload (11 section 11.4). -/
def payloadEvent (s : State) (offset i : Nat) : RawEvent :=
  { low := s.memWord (offset + 4 * i), high := s.memWord (offset + 4 * i + 1)
    height := s.memWord (offset + 4 * i + 2), kind := s.memWord (offset + 4 * i + 3) }

/-- The instant of two words, the low word first (R198). -/
def instantOfWords (low high : Word) : Nat := low.toNat + 65536 * high.toNat

/-- The number of the first check of R71 that event `r` fails, `prev` being the event before it. -/
def failedCheck (prev : Option RawEvent) (r : RawEvent) : Option Nat :=
  let time := instantOfWords r.low r.high
  if r.kind ≠ 1 ∧ r.kind ≠ 2 then some 3
  else if 52595999 < time then some 4
  else if r.height.toInt < -5000 ∨ 20000 < r.height.toInt then some 5
  else match prev with
    | none => none
    | some p =>
      let before := instantOfWords p.low p.high
      if time ≤ before then some 6
      else if r.kind = p.kind then some 7
      else if time < before + 120 ∨ before + 720 < time then some 8
      else if (if r.kind = 1 then r.height.toInt ≤ p.height.toInt else p.height.toInt ≤ r.height.toInt) then some 9
      else none

/-- The first failed check of event `i` of a payload. -/
def payloadCheck (s : State) (offset i : Nat) : Option Nat :=
  failedCheck (if i = 0 then none else some (payloadEvent s offset (i - 1))) (payloadEvent s offset i)

/-- The tide event that four words give. -/
def eventOf (r : RawEvent) : TideEvent :=
  { kind := if r.kind = 1 then .high else .low, time := instantOfWords r.low r.high, height := r.height.toInt }

/-- An event of the alarm unit in closed form (R86, R90, R96, R104, R105): each alarm's record by `f`; ALARM set if one raised or
triggered; one TIDE request to every fitted screen for each that did so with WASH_ALL, in number order; one action-change
event if the floor or the hold state has changed. -/
def alarmsHandled (s : State) (unit : AlarmUnit) (f : Alarm → AlarmStep) : State :=
  let new : AlarmUnit := { unit with records := tab fun i => (f (sel unit.records i)).record }
  let fired := (List.finRange 16).filter fun i => (f (sel unit.records i)).fired
  let washing := fired.filter fun i => (f (sel unit.records i)).record.actions.washAll
  { s with
    alarm := new
    port := { s.port with summary := if fired = [] then s.port.summary else s.port.summary ||| Flag.alarm.mask }
    wires := { s.wires with
      washRequests := s.wires.washRequests ++ washing.flatMap fun _ => (indices s.screenFitted).map fun n => (n, .tide)
      actionChanges := s.wires.actionChanges ++
        if new.floor = s.alarm.floor ∧ new.holdState = s.alarm.holdState then [] else [(new.floor, new.holdState)] } }

/-- A queue with a screen joined at the tail of its class, URGENT if it is choked (R117, R141). -/
def joined (n : ScreenNo) (choked : Bool) (q : List (ScreenNo × WashClass)) : List (ScreenNo × WashClass) :=
  if choked then
    (q.filter fun m => m.2 == .urgent) ++ [(n, .urgent)] ++ q.filter fun m => m.2 == .routine
  else q ++ [(n, .routine)]

/-- A queue with a screen removed from wherever it stands (R141). -/
def without (n : ScreenNo) (q : List (ScreenNo × WashClass)) : List (ScreenNo × WashClass) := q.filter fun m => m.1 != n

/-- A state with a screen's record and the wash header replaced. -/
def withScreen (s : State) (n : ScreenNo) (x : Screen) (w : Wash) : State :=
  { s with screens := upd s.screens n x, wash := w }

/-- The completion of the wash order that the record `x` held, if it held one, with turns done and the cause set (R121, R124,
R130, R131). -/
def washOrderEnded (x : Screen) (r : OrderResult) (s : State) : State :=
  match x.washOrder with
  | none => s
  | some o => s.complete o.entry (some o.tag) r [word x.turnsDone, word x.causes.code]

/-- The record of a screen that stalls, whatever it held (R124). -/
def stalledScreen (x : Screen) : Screen :=
  { x with
    state := .stalled, fast := false, turnWatch := none, rundownClock := none, again := false
    stored := { interval := false, differential := false, tide := false, order := false }, washOrder := none }

/-- The record of a screen that ends a wash (R121). -/
def rundownScreen (x : Screen) : Screen :=
  { x with state := .rundown, turnWatch := none, rundownClock := some x.rundownTime }

/-- The record of a QUEUED screen parked out of turn (R130, R131). -/
def parkedScreen (x : Screen) : Screen :=
  { x with
    state := .parked, causes := { interval := false, differential := false, tide := false, order := false }, turnsDone := 0 }

/-- A screen's part of a differential report in closed form (R126, R127): the last dP and whether it reaches the start threshold
(R120), the choked mark with FAST, the flag and the promotion at its onset, then the request by state (R116, R117). -/
def differentialHandled (s : State) (n : ScreenNo) (d : Differential) : State :=
  let x := s.screen n
  let reaches := d.valid && decide (x.chokeThreshold ≤ d.value) && x.service == .inService
  let onset := reaches && !x.choked
  let y : Screen :=
    { x with
      lastDp := d
      dpReached := d.valid && decide (x.startThreshold ≤ d.value)
      choked := if reaches then true else if d.valid && decide (d.value < x.startThreshold) then false else x.choked
      fast := x.fast || (onset && (x.state == .starting || x.state == .washing)) }
  let queue :=
    if onset && decide ((n, WashClass.routine) ∈ s.wash.queue) then joined n true (without n s.wash.queue) else s.wash.queue
  let asks := d.valid && decide (x.startThreshold ≤ d.value) && x.service == .inService
  let t := if onset then withFlag s .screen else s
  if !s.screenFitted n then s
  else if asks && x.state == .parked then
    withScreen t n
      { y with
        state := .queued, turnsDone := 0, turnsWanted := x.configTurns
        causes := { interval := false, differential := true, tide := false, order := false } }
      { s.wash with queue := joined n y.choked queue }
  else if asks && x.state == .rundown then
    withScreen t n { y with stored := { x.stored with differential := true }, again := true } { s.wash with queue := queue }
  else if asks && x.state != .stalled then
    withScreen t n { y with causes := { x.causes with differential := true } } { s.wash with queue := queue }
  else withScreen t n y { s.wash with queue := queue }

/-- What the choke state of the screen unit is: present exactly when a fitted screen in service carries the choked mark (R128). A
HELD screen carries none (R112), so that of every fitted screen the mark alone says it. -/
def ChokeStateIsMark : Prop :=
  ∀ s : State, (s.chokeState = true ↔ ∃ n, s.screenFitted n = true ∧ (s.screen n).service = .inService ∧ (s.screen n).choked = true) ∧
    ((∀ n, (s.screen n).service = .held → (s.screen n).choked = false) →
      (s.chokeState = true ↔ ∃ n, s.screenFitted n = true ∧ (s.screen n).choked = true))

/-- What a running-pump report carries: the number of fitted pumps in RUNNING (R140, R155). -/
def RunningCountIsNumber : Prop :=
  ∀ s : State,
    s.runningCount = ((List.finRange 6).filter fun p => s.pumpFitted p && (s.pump p).state == .running).length

/-- A state with the choke state sent to the duty unit if it is not what it was (R128). -/
def chokeSent (before : Bool) (s : State) : State :=
  if s.chokeState = before then s
  else { s with wires := { s.wires with chokeChanges := s.wires.chokeChanges ++ [s.chokeState] } }

/-- The completion of the change order, if one is held, its reference dropped (R184, R185, R186, R190). -/
def changeOrderEnded (r : OrderResult) (incoming outgoing : PumpNo) (s : State) : State :=
  match s.duty.changeOrder with
  | none => s
  | some o =>
    ({ s with duty := { s.duty with changeOrder := none } }).complete o.entry (some o.tag) r
      [word incoming.1, word outgoing.1]

/-- A duty record with another move and the saved roster, if there is one, restored (R187). -/
def restoredWith (m : Move) (d : Duty) : Duty :=
  { d with move := m, roster := d.savedRoster.getD d.roster, savedRoster := none }

/-- A state with a stop request sent to a pump, its stop-sent mark set (R173). -/
def stopSentTo (p : PumpNo) (s : State) : State :=
  { s with
    wires := { s.wires with pumpRequests := s.wires.pumpRequests ++ [.stop p] }
    duty := { s.duty with view := upd s.duty.view p { sel s.duty.view p with stopSent := true } } }

/-- A pump counted running: its view shows RUNNING and its stop-sent mark is clear (R173). -/
def countedRunning (d : Duty) (p : PumpNo) : Bool := (sel d.view p).state == .running && !(sel d.view p).stopSent

/-- A pump counted available: its view shows it available and its stop-sent mark is clear (R173). -/
def countedAvailable (d : Duty) (p : PumpNo) : Bool := (sel d.view p).available && !(sel d.view p).stopSent

/-- The pumps counted running, in roster order (R173). -/
def countedSet (d : Duty) : List PumpNo := d.roster.filter fun p => countedRunning d p

/-- The target set, in roster order (R176). -/
def targetSet (d : Duty) : List PumpNo :=
  (d.roster.filter fun p => countedRunning d p || countedAvailable d p).take d.limit

/-- One for a START in flight (R178, R182). -/
def startsOne : Move → Nat
  | .start _ => 1
  | .change _ _ _ => 0
  | .none => 0

/-- An event at one pump in closed form (R154, R155, R140): the record becomes `x` with its availability re-evaluated, a
pump-change report follows if state, service or availability changed, and a running-pump report if the number in RUNNING did. -/
def pumpBecomes (s : State) (p : PumpNo) (x : Pump) : State :=
  let y := { x with available := x.canStart (s.pumpFitted p) s.pumps.lastW }
  let t := { s with pumps := { s.pumps with records := upd s.pumps.records p y } }
  { t with wires := { s.wires with
      pumpReports := s.wires.pumpReports ++
        if (s.pump p).state = y.state ∧ (s.pump p).service = y.service ∧ (s.pump p).available = y.available then []
        else
          [{ pump := p, state := y.state, service := y.service, available := y.available, lastStop := y.lastStop
             refused := false }]
      runningReports := s.wires.runningReports ++ if t.runningCount = s.runningCount then [] else [t.runningCount] } }

/-- The record of a pump stopped in STARTING or RUNNING (R160). -/
def stoppedFor (cause : StopCause) (x : Pump) : Pump :=
  { x with
    state := .stopping, lastStop := some cause, proveWatch := none, lossWatch := none
    stoppingClock := some x.stoppingTime, submergenceCount := 0 }

/-- The record of a pump that trips (R163). -/
def trippedFor (cause : StopCause) (x : Pump) : Pump :=
  { x with
    state := .tripped, lastStop := some cause, proveWatch := none, lossWatch := none, stoppingClock := none
    submergenceCount := 0 }

/-- The record of a pump that enters STOPPED with its restart delay loaded (R161, R167). -/
def restingPump (x : Pump) : Pump :=
  { x with state := .stopped, stoppingClock := none, delayRemaining := x.restartDelay, delayDue := false }

/-! ## Invariants -/

/-- The entries that the screens and the duty unit hold (R11). -/
def holders (s : State) : List Entry :=
  ((List.finRange 6).filterMap fun n => (s.screen n).washOrder.map fun o => o.entry) ++
    (s.duty.changeOrder.map fun o => o.entry).toList

/-- Whether a move is a CHANGE of origin ORDER. -/
def Move.isOrdered : Move → Bool
  | .change _ _ .order => true
  | .change _ _ .reconcile => false
  | .start _ => false
  | .none => false

/-- Exchange memory is canonical (log 10); an entry stands in the intake queue exactly when its hand is POSTED, and once (R9);
an entry is held by a screen or the duty unit exactly when its hand is TAKEN or CANCEL, and by one of them (R11); while the
part runs or starts up, a change order stands exactly with a CHANGE of origin ORDER in flight (09 section 9.1). -/
def ExchangeInv (s : State) : Prop :=
  Memory.wf s.mem = true ∧ s.intake.Nodup ∧ (∀ e, e ∈ s.intake ↔ s.hand e = .posted) ∧ (holders s).Nodup ∧
    (∀ e, e ∈ holders s ↔ (s.hand e = .taken ∨ s.hand e = .cancel)) ∧
      ((s.phase = .running ∨ s.phase = .coldStart) → s.duty.changeOrder.isSome = Move.isOrdered s.duty.move)

/-- The wash queue holds exactly the QUEUED screens, each once, URGENT ahead of ROUTINE (R117); slots held is the number of
screens in STARTING or WASHING and at most the capacity (R137); a HELD screen is not choked (R112); FAST is on only while DRIVE
is (R114); a screen that is not fitted keeps its cold-reset values (R113). -/
def WashInv (s : State) : Prop :=
  (∀ n, n ∈ s.wash.queue.map Prod.fst ↔ (s.screen n).state = .queued) ∧ (s.wash.queue.map Prod.fst).Nodup ∧
    s.wash.queue = classOf .urgent s.wash.queue ++ classOf .routine s.wash.queue ∧
    s.wash.slots = (indices fun n => (s.screen n).state.holdsSlot).length ∧ s.wash.slots ≤ s.wash.capacity ∧
    (∀ n, (s.screen n).service = .held → (s.screen n).choked = false) ∧
    (∀ n, (s.screen n).fast = true →
      (s.screen n).state = .starting ∨ (s.screen n).state = .washing ∨ (s.screen n).state = .rundown) ∧
    ∀ n, s.screenFitted n = false → s.screen n = Screen.cold

/-- A pump is available exactly when all terms of R154 hold; outside running no W report is GOOD (R170, R171); a pump that is
not fitted keeps its cold-reset values (R151). -/
def AvailabilityInv (s : State) : Prop :=
  (∀ p, (s.pump p).available = s.canStart p) ∧
    ((s.phase = .coldStart ∨ s.phase = .held) → s.pumps.lastW.quality ≠ .good) ∧
    ∀ p, s.pumpFitted p = false → s.pump p = Pump.cold

/-- An ordering of all fitted pumps, each once (R172). -/
def IsRoster (s : State) (r : List PumpNo) : Prop := r.Nodup ∧ ∀ p, p ∈ r ↔ s.pumpFitted p = true

/-- The running limit that a duty record's terms give: D, lowered to the derate floor copy if it is present and to K if the choke
state copy is (R174). -/
def runningLimit (d : Duty) : Nat :=
  min d.demand (min (d.floorCopy.getD d.demand) (if d.chokeCopy then d.chokeLimit else d.demand))

/-- The roster is an ordering of the fitted pumps (R172); a saved roster is one too, and stands exactly with a CHANGE of
origin ORDER in flight (09 section 9.1); the running limit is what its terms give (R174). -/
def RosterInv (s : State) : Prop :=
  IsRoster s s.duty.roster ∧ (∀ r, s.duty.savedRoster = some r → IsRoster s r) ∧
    s.duty.savedRoster.isSome = Move.isOrdered s.duty.move ∧ s.duty.limit = runningLimit s.duty

/-- The clock's fields are a date and time of 2000 to 2099, and its weekday and minute count are those of that date and time
(R31, 02 section 2.2). -/
def ClockInv (s : State) : Prop :=
  let c := s.time.clock
  timeArgsOk c.year c.month c.day c.hour c.minute c.second = true ∧ c.weekday = weekdayOf (dayNumber c.year c.month c.day) ∧
    c.minuteCount = instantOf c.year c.month c.day c.hour c.minute

/-- Every preset and count lies between 1 and 4095, and no two timers have the same screen or rotation as owner (R41). -/
def TimerInv (s : State) : Prop :=
  (∀ t, 1 ≤ (s.timer t).preset ∧ (s.timer t).preset ≤ 4095 ∧ 1 ≤ (s.timer t).count ∧ (s.timer t).count ≤ 4095) ∧
    ∀ t u, t ≠ u → (s.timer t).owner = (s.timer u).owner →
      (s.timer t).owner = .none ∨ (s.timer t).owner = .report

/-- A disabled alarm stands in QUIET with count 0, its mark clear and no armed trigger (R86); an instant alarm is QUIET or
CLEARED_UNACK (05 section 5.4). -/
def AlarmInv (s : State) : Prop :=
  ∀ i, let a := sel s.alarm.records i
    (a.enabled = false → a.state = .quiet ∧ a.count = 0 ∧ a.inputLost = false ∧ a.armed = none) ∧
      (a.kind.measured = false → a.state = .quiet ∨ a.state = .clearedUnack)

/-- While RESET_N holds the part the registers are 0 (R22), nothing is on its way (log 2), every fitted screen is PARKED with
FAST off and every fitted pump STOPPED (R136, R171), no slot is held and no screen waits (R150), and no move is in flight
(R197). -/
def HeldInv (s : State) : Prop :=
  s.phase = .held →
    s.resetLow = true ∧ s.port = Port.cold ∧ s.wires = Wires.empty ∧
      (∀ n, s.screenFitted n = true → (s.screen n).state = .parked ∧ (s.screen n).fast = false) ∧
      (∀ p, s.pumpFitted p = true → (s.pump p).state = .stopped) ∧ s.wash.slots = 0 ∧ s.wash.queue = [] ∧
      s.duty.move = .none

/-- How many codes a filter may hold in each quality (R50). -/
def filterFits (q : Quality) (k : Nat) : Prop :=
  match q with
  | .good => k = 4
  | .filling => k < 4
  | .unconfigured => k = 0
  | .broken => k = 0
  | .over => k = 0
  | .stuck => k = 0

/-- An edition-change event on its way carries the edition that is live: no take changes it between a swap and the event (R74,
log 28). -/
def EditionInv (s : State) : Prop := s.wires.editionChanges = [] ∨ s.wires.editionChanges = [s.tide.live]

/-- Two neighbours of an edition as checks 6 to 9 leave them: of different kinds, 120 to 720 minutes apart, the HIGH above the
LOW (R71). -/
def EventFollows (a b : TideEvent) : Prop :=
  a.kind ≠ b.kind ∧ a.time + 120 ≤ b.time ∧ b.time ≤ a.time + 720 ∧
    (a.kind = .high → b.height < a.height) ∧ (b.kind = .high → a.height < b.height)

/-- An edition holds 0 to 64 events, strictly increasing in instant and alternating between HIGH and LOW (R68), each an instant
of the clock and a height of the tide, each neighbour as the checks leave it (R71). -/
def EditionOk (l : List TideEvent) : Prop :=
  l.length ≤ 64 ∧ (l.Pairwise fun a b => a.time < b.time) ∧
    (∀ e ∈ l, e.time ≤ 52595999 ∧ -5000 ≤ e.height ∧ e.height ≤ 20000) ∧ l.IsChain EventFollows

/-- Both editions, the live and the spare, are as R68 and R71 give them. -/
def TideInv (s : State) : Prop := EditionOk s.tide.editionA ∧ EditionOk s.tide.editionB

/-- Every channel's filter holds as many codes as its quality allows (R50), and the minute history at most eleven entries
(R65). -/
def LevelInv (s : State) : Prop :=
  (∀ n, filterFits (sel s.level.channels n).quality (sel s.level.channels n).filter.length) ∧
    s.level.history.length ≤ historyLength

end Sys2Proof
end

