-- ==== Sys2Proof/Certificates/Slice0/Obligations.lean ====
section
/-!
DEFINITION. The statements about the part, by chapter: the queue of commands, the port, orders, resets, and each unit's commands.
Where a clause rests on a choice of the model, its docstring names the log entry.
-/

section Statements
open Sys2Proof Sys2Proof.Machine

/-! ## The machine -/

/-- A step with a command at the front of the queue is that command on the state with the queue's rest (log 1). -/
def Obligations.StepTakesFront : Prop :=
  ∀ (c : Instr) (s : State), step { s with pending := c :: s.pending } = exec c s

/-- Every command answers a next state and leaves the queue of commands as it stands; the fitted counts change at the
application of power alone (R21). -/
def Obligations.ExecAnswersNextAndKeepsQueue : Prop :=
  ∀ (c : Instr) (s : State), ∃ t, exec c s = .next t ∧ t.pending = s.pending ∧
    ((∀ a b, c ≠ .powerApplication a b) → t.fittedScreens = s.fittedScreens ∧ t.fittedPumps = s.fittedPumps)

/-- On an empty queue one source cycle passes: the divider counts it and, while the source is RC, so does the confirm period,
each short of its end; nothing passes while the supply is absent (the model's choice, log 6). -/
def Obligations.EmptyQueueCountsOneSourceCycle : Prop :=
  ∀ s : State, s.pending = [] →
    (s.phase = .unpowered → step s = .next s) ∧
      (s.phase ≠ .unpowered →
        step s = .next { s with time := { s.time with
          divider := min (s.time.divider + 1) 32767
          confirm := if s.time.base = .crystal then s.time.confirm else min (s.time.confirm + 1) 65535 } })

/-- In the cold start-up, while RESET_N holds the part and while the supply is absent, host writes are discarded without fault,
no order is taken and no event reaches a unit (R20, R22). -/
def Obligations.PartNotRunningIgnoresWritesAndTakes : Prop :=
  ∀ (c : Instr) (s : State), runningOnly c = true → s.phase ≠ .running → exec c s = .next s

/-- The part right after reset stands as the chapters give the cold reset, every record whole: the port and exchange memory (R20),
the time unit and the timers (R35, R48), the channels and the sea record (R56, R61, R67), the tide unit (R84), the alarms (R110),
the screens and the wash header (R135, R149), the pumps (R170) and the duty unit (R196). The straps, RESET_N and what the
chapters give no reset value are the model's choice (log 3, log 4). -/
def Obligations.ResetHoldsColdValues : Prop :=
  let s := State.reset
  s.phase = .coldStart ∧ s.pending = [] ∧ s.intake = [] ∧
    s.port = { summary := 0, enable := 0, fault := { kind := .none, more := false, index := 0, offset := 0 } } ∧
    s.port.fault.toWord = 0 ∧ (∀ a, s.memWord a = 0) ∧ (∀ e, s.hand e = .free) ∧ s.wires = Wires.empty ∧
    s.resetLow = false ∧ s.fittedScreens = 6 ∧ s.fittedPumps = 6 ∧
    s.time =
      { base := .rcStart, divider := 0, confirm := 0, timers := s.time.timers, failedInHold := false, suspectAtFall := true
        clock :=
          { year := 2000, month := 1, day := 1, weekday := 5, hour := 0, minute := 0, second := 0, minuteCount := 0
            suspect := true } } ∧
    (∀ t, s.timer t =
      { owner := .none, unit := .second, preset := 1, count := 1, running := false, expiries := 0 }) ∧
    s.level =
      { channels := s.level.channels, scanned := false, seaValue := 0, seaQuality := .lost, gauge := .held, band := 100
        history := [] } ∧
    (∀ n, sel s.level.channels n =
      { rawLow := 0, rawHigh := 0, engLow := 0, engHigh := 0, faultLow := 0, faultHigh := 0, stuckWindow := 0
        quality := .unconfigured, filter := [], value := 0, lastRaw := 0, runLength := 0 }) ∧
    s.tide =
      { editionA := [], editionB := [], live := .a, now := 0, suspect := true, valid := false, level := 0
        nextHigh := none, nextLow := none, short := true } ∧
    (∀ i, sel s.alarm.records i =
      { kind := .levelHigh, enabled := false, threshold := 0, hysteresis := 0, persistence := 1
        actions := { washAll := false, derate := false, holdRotation := false }, derateValue := 0, lead := 0
        which := .unused, hour := 0, minute := 0, mode := .weekdays, weekdays := 0, day := 0, state := .quiet, count := 0
        raised := none, inputLost := false, armed := none }) ∧
    s.alarm.now = 0 ∧ s.alarm.suspect = true ∧ s.alarm.floor = none ∧ s.alarm.holdState = false ∧
    (∀ n, s.screen n =
      { service := .held, state := .parked, turnsWanted := 2, turnsDone := 0, configTurns := 2, startThreshold := 150
        chokeThreshold := 400, turnTimeout := 240, rundownTime := 30, intervalRestart := false, choked := false
        causes := { interval := false, differential := false, tide := false, order := false }
        stored := { interval := false, differential := false, tide := false, order := false }
        again := false, washOrder := none, washCount := 0, lastWashEnd := none
        lastDp := { value := 0, valid := false }, dpReached := false, turnWatch := none, rundownClock := none
        fast := false, turn := false, overload := false }) ∧
    (∀ n, s.driveLine n = false ∧ s.fastLine n = false ∧ s.sprayLine n = false) ∧ s.chokeState = false ∧
    s.wash =
      { capacity := 1, minPressure := 150, tolerance := 15, slots := 0, pressurised := false, lossCount := 0, running := 0
        lastH := { value := 0, quality := .unconfigured }, queue := [] } ∧
    (∀ p, s.pump p =
      { service := .outOfService, state := .stopped, proveTime := 30, lossTolerance := 5, stoppingTime := 60
        restartDelay := 300, minSubmergence := 0, delayRemaining := 0, delayDue := false, lastStop := none
        runMinutes := 0, runSeconds := 0, startCount := 0, submergenceCount := 0, available := false
        proveWatch := none, lossWatch := none, stoppingClock := none, proof := false, motorFault := false }) ∧
    (∀ p, s.runLine p = false) ∧ s.pumps.lastW = { value := 0, quality := .unconfigured } ∧
    s.duty =
      { roster := [0, 1, 2, 3, 4, 5], demand := 0, chokeLimit := 6, chokeCopy := false, floorCopy := none
        holdCopy := false, limit := 0, lock := false, rotationPending := false, shortfall := false, move := .none
        changeOrder := none, savedRoster := none, view := s.duty.view, lastW := { value := 0, quality := .unconfigured } } ∧
    ∀ p, sel s.duty.view p = { state := .stopped, available := false, stopSent := false }

/-! ## Invariants -/

/-- Every invariant of the part holds right after reset. -/
def Obligations.ResetHasInvariants : Prop :=
  ExchangeInv State.reset ∧ WashInv State.reset ∧ AvailabilityInv State.reset ∧ RosterInv State.reset ∧
    ClockInv State.reset ∧ TimerInv State.reset ∧ AlarmInv State.reset ∧ LevelInv State.reset ∧ HeldInv State.reset ∧
    EditionInv State.reset ∧ TideInv State.reset

/-- Every step keeps the exchange in order: memory is canonical, the intake queue holds exactly the POSTED entries, each once, and
the units hold exactly the TAKEN and CANCEL entries, each by one (R9, R11), a change order standing with its move (09 section
9.1). What a held part holds (R22, R197) goes with it, since a release starts from there. -/
def Obligations.ExchangeInvKept : Prop := Kept fun s => ExchangeInv s ∧ HeldInv s

/-- Every step keeps the wash queue and the slots in order (R112, R113, R117, R137). In a running part DRIVE is on exactly in
STARTING, WASHING and RUNDOWN, SPRAY exactly in STARTING and WASHING, FAST as it was switched and only while DRIVE is on, and
every output of a screen that is not fitted is off (R113, R114). -/
def Obligations.WashInvKept : Prop :=
  Kept WashInv ∧
    ∀ (s : State) (n : ScreenNo), s.phase = .running →
      let x := s.screen n
      (s.driveLine n = true ↔
        s.screenFitted n = true ∧ (x.state = .starting ∨ x.state = .washing ∨ x.state = .rundown)) ∧
        (s.sprayLine n = true ↔ s.screenFitted n = true ∧ (x.state = .starting ∨ x.state = .washing)) ∧
        (s.fastLine n = true ↔ s.screenFitted n = true ∧ x.fast = true) ∧
        (WashInv s → s.fastLine n = true → s.driveLine n = true)

/-- At every step a pump is available exactly when the terms of R154 hold. -/
def Obligations.AvailabilityInvKept : Prop := Kept AvailabilityInv

/-- Every step leaves the roster an ordering of all fitted pumps, each once (R172), and the saved roster with a CHANGE of origin
ORDER. -/
def Obligations.RosterInvKept : Prop := Kept RosterInv

/-- Every step leaves the clock a date and time of 2000 to 2099 with the weekday and minute count of that date (R31), and
every preset and count of the timer bank in 1 to 4095 with at most one timer to each screen and to rotation (R38, R41). -/
def Obligations.TimeInvKept : Prop :=
  Kept ClockInv ∧ Kept TimerInv

/-- Every step leaves a disabled alarm QUIET with count 0, no mark and no armed trigger (R86) and an instant alarm QUIET or
CLEARED_UNACK (R96), and each filter with as many codes as its quality allows (R50) and at most eleven history entries (R65). An
edition-change event on its way finds the edition of its swap live (R74, log 28), and each edition holds 0 to 64 events, strictly
increasing in instant and alternating between HIGH and LOW (R68), its events and neighbours within the bounds of LOAD_TIDE's
checks (R71). -/
def Obligations.AlarmAndLevelInvKept : Prop :=
  Kept AlarmInv ∧ Kept LevelInv ∧ Kept EditionInv ∧ Kept TideInv

/-- While RESET_N holds the part, every step leaves the registers 0, nothing on its way, fitted screens PARKED with FAST off,
fitted pumps STOPPED, no slot held, no move in flight (R22, R136, R150, R171, R197; log 2 for what was on its way). -/
def Obligations.HeldInvKept : Prop := Kept HeldInv

/-! ## The port -/

/-- What a host read returns: nothing without supply, 0 in the cold start-up and while held (R20, R22); else the word of
exchange memory, the hand of an entry in its word 0 (R1), or the register that the two low address bits select, PORT_ID being
0xAAA1 (R2, R199). SUMMARY and ENABLE hold their ten flags in bits 9 to 0; FAULT holds the kind in bits 15 and 14, the more mark
in bit 13, the index in bits 9 to 5 and the offset in bits 4 to 0, and reads 0 if its kind is NONE (R199). -/
def Obligations.HostReadReturnsWordOrRegister : Prop :=
  (∀ (s : State) (a : Addr),
    (s.phase = .unpowered → ∀ sel, s.hostRead sel a = none) ∧
      (s.phase = .coldStart ∨ s.phase = .held → ∀ sel, s.hostRead sel a = some 0) ∧
      (s.phase = .running →
        (a.toNat % 4 = 0 → s.hostRead true a = some (s.port.summary.setWidth 16)) ∧
          (a.toNat % 4 = 1 → s.hostRead true a = some (s.port.enable.setWidth 16)) ∧
          (a.toNat % 4 = 2 → s.hostRead true a = some s.port.fault.toWord) ∧
          (a.toNat % 4 = 3 → s.hostRead true a = some 0xAAA1) ∧
          (∀ e : Entry, a.toNat = 32 * e.1 → s.hostRead false a = some (s.hand e).code) ∧
          ((1024 ≤ a.toNat ∨ a.toNat % 32 ≠ 0) → s.hostRead false a = some (Memory.read s.mem a.toNat)))) ∧
    (∀ f : ExchangeFault,
      let rest := (if f.more then 8192 else 0) + 32 * f.index.1 + f.offset.1
      (f.kind = .none → f.toWord = 0) ∧ (f.kind = .handIllegal → f.toWord = word (16384 + rest)) ∧
        (f.kind = .entryLocked → f.toWord = word (32768 + rest)) ∧ (f.kind = .readOnly → f.toWord = word (49152 + rest))) ∧
    ([Flag.started, .orderDone, .alarm, .sea, .tide, .screen, .pump, .timebase, .timer, .exchange].map Flag.position =
        [0, 1, 2, 3, 4, 5, 6, 7, 8, 9]) ∧
    ∀ (s : State) (f : Flag), s.flag f = s.port.summary.getLsbD f.position

/-- INT (here asserted is `true`, the line being active low) is asserted exactly while a flag position stands in SUMMARY and in
ENABLE, whatever wrote either; ENABLE is zero and INT released from an application of power and from the fall of RESET_N. -/
def Obligations.IntFollowsSummaryAndEnable : Prop :=
  (∀ s : State, s.phase = .running →
      (s.intLine = some true ↔ ∃ i, i < 10 ∧ s.port.summary.getLsbD i = true ∧ s.port.enable.getLsbD i = true) ∧
        (s.intLine = some false ↔ ¬∃ i, i < 10 ∧ s.port.summary.getLsbD i = true ∧ s.port.enable.getLsbD i = true)) ∧
    (∀ (s : State) (a b : BitVec 3), ∃ t, exec (.powerApplication a b) s = .next t ∧ t.port.enable = 0 ∧
      t.intLine = some false) ∧
    ∀ s : State, s.phase = .running → ∃ t, exec .resetNFall s = .next t ∧ t.port.enable = 0 ∧ t.intLine = some false

/-- The cells of the table of R4 that make no event of the order unit: what the host's write of `w` leaves. -/
def Obligations.HandTableKeepsDiscardsAndRefuses : Prop :=
  ∀ (s : State) (e : Entry) (w : Word), s.phase = .running →
    (5 ≤ w.toNat → exec (.handIllegal e w) s = .next (faulted s .handIllegal e 0)) ∧
      (w = (s.hand e).code → exec (.handIllegal e w) s = .next s) ∧
      (s.hand e = .free ∧ (w = 2 ∨ w = 3 ∨ w = 4) → exec (.handIllegal e w) s = .next (faulted s .handIllegal e 0)) ∧
      (s.hand e = .posted ∧ (w = 2 ∨ w = 3) → exec (.handIllegal e w) s = .next (faulted s .handIllegal e 0)) ∧
      (s.hand e = .posted ∧ w = 4 → exec (.handIllegal e w) s = .next s ∧ exec (.cancelRequest e) s = .next s) ∧
      (s.hand e = .taken ∧ (w = 1 ∨ w = 3) → exec (.handIllegal e w) s = .next (faulted s .handIllegal e 0)) ∧
      (s.hand e = .taken ∧ w = 0 → exec (.handIllegal e w) s = .next s ∧ exec (.withdrawal e) s = .next s) ∧
      (s.hand e = .done ∧ (w = 1 ∨ w = 2) → exec (.handIllegal e w) s = .next (faulted s .handIllegal e 0)) ∧
      (s.hand e = .done ∧ w = 4 → exec (.handIllegal e w) s = .next s ∧ exec (.cancelRequest e) s = .next s) ∧
      (s.hand e = .cancel ∧ w = 0 → exec (.handIllegal e w) s = .next s ∧ exec (.withdrawal e) s = .next s) ∧
      (s.hand e = .cancel ∧ (w = 1 ∨ w = 2 ∨ w = 3) →
        exec (.handIllegal e w) s = .next (faulted s .handIllegal e 0)) ∧
      (s.hand e = .free ∧ w = 1 → exec (.handIllegal e w) s = exec (.arrival e) s) ∧
      (s.hand e = .posted ∧ w = 0 → exec (.handIllegal e w) s = exec (.withdrawal e) s) ∧
      (s.hand e = .done ∧ w = 0 → exec (.handIllegal e w) s = exec (.giveBack e) s) ∧
      (s.hand e = .taken ∧ w = 4 → exec (.handIllegal e w) s = exec (.cancelRequest e) s)

/-- An arrival stores POSTED and appends the entry to the tail of the intake queue (R5); a withdrawal stores FREE and removes it
from wherever it stands (R6); a give-back stores FREE in a DONE hand and reaches no unit (R7); a cancel request stores CANCEL in
a TAKEN hand and passes the request to the screen or the duty unit that holds the entry (R8). Nothing else changes. -/
def Obligations.OrderEventsAtTheHand : Prop :=
  (∀ (s : State) (e : Entry), s.phase = .running →
    (s.hand e = .free →
      exec (.arrival e) s = .next { s with hands := upd s.hands e .posted, intake := s.intake ++ [e] }) ∧
      (s.hand e = .posted →
        exec (.withdrawal e) s =
          .next { s with hands := upd s.hands e .free, intake := s.intake.filter fun f => f != e }) ∧
      (s.hand e = .done → exec (.giveBack e) s = .next { s with hands := upd s.hands e .free })) ∧
    (∀ (s : State) (e : Entry), s.phase = .running → s.hand e = .taken → ExchangeInv s →
        (∀ n o, (s.screen n).washOrder = some o → o.entry = e →
          exec (.cancelRequest e) s =
            .next { s with
              hands := upd s.hands e .cancel
              wires := { s.wires with washCancels := s.wires.washCancels ++ [(n, e)] } }) ∧
          ∀ o, s.duty.changeOrder = some o → o.entry = e →
            exec (.cancelRequest e) s =
              .next { s with
                hands := upd s.hands e .cancel
                wires := { s.wires with changeCancels := s.wires.changeCancels ++ [e] } })

/-- A host write to words 1 to 31 of an entry is stored while its hand is FREE, POSTED or DONE and refused as ENTRY_LOCKED while
it is TAKEN or CANCEL (R3); a host write to the bulk area is stored (R1); a stored write changes that word alone. A write of
SUMMARY clears each flag written 0 and leaves each written 1 (R16); a write of ENABLE stores the ten positions (R2); a write of 0
to FAULT clears it and any other value is not stored (R19); a write of PORT_ID is READ_ONLY (R2). A write cycle is the row that
its register-select and its address give: the register of the two low address bits (R199), the bulk word, the entry word, or the
hand, where the value written gives the row (R1, R4). -/
def Obligations.HostWritesWordsAndRegisters : Prop :=
  (∀ (s : State) (w : Word), s.phase = .running → Memory.wf s.mem = true →
    (∀ (e : Entry) (o : Fin 32), o ≠ 0 → (s.hand e = .free ∨ s.hand e = .posted ∨ s.hand e = .done) →
      ∃ m, exec (.entryWordWrite e o w) s = .next { s with mem := m } ∧ Memory.wf m = true ∧
        ∀ a, Memory.read m a = if a = 32 * e.1 + o.1 then w else Memory.read s.mem a) ∧
      (∀ (e : Entry) (o : Fin 32), o ≠ 0 → (s.hand e = .taken ∨ s.hand e = .cancel) →
        exec (.entryWordWrite e o w) s = .next (faulted s .entryLocked e o)) ∧
      ∀ a : Addr, 0x400 ≤ a.toNat →
        ∃ m, exec (.bulkWrite a w) s = .next { s with mem := m } ∧ Memory.wf m = true ∧
          ∀ b, Memory.read m b = if b = a.toNat then w else Memory.read s.mem b) ∧
    (∀ (s : State) (w : Word), s.phase = .running →
        exec (.summaryWrite w) s = .next { s with port := { s.port with summary := s.port.summary &&& w.setWidth 10 } } ∧
          (∀ t, exec (.summaryWrite w) s = .next t → ∀ f : Flag, t.flag f = (s.flag f && w.getLsbD f.position)) ∧
          exec (.enableWrite w) s = .next { s with port := { s.port with enable := w.setWidth 10 } } ∧
          exec (.faultWrite 0) s =
            .next { s with port := { s.port with fault := { kind := .none, more := false, index := 0, offset := 0 } } } ∧
          (w ≠ 0 → exec (.faultWrite w) s = .next s) ∧
          exec (.readOnly w) s = .next (faulted s .readOnly 0 0)) ∧
    ∀ (a : Addr) (w : Word),
      (a.toNat % 4 = 0 → busWrite true a w = .summaryWrite w) ∧ (a.toNat % 4 = 1 → busWrite true a w = .enableWrite w) ∧
        (a.toNat % 4 = 2 → busWrite true a w = .faultWrite w) ∧ (a.toNat % 4 = 3 → busWrite true a w = .readOnly w) ∧
        (0x400 ≤ a.toNat → busWrite false a w = .bulkWrite a w) ∧
        (∀ (e : Entry) (o : Fin 32), a.toNat = 32 * e.1 + o.1 →
          (o ≠ 0 → busWrite false a w = .entryWordWrite e o w) ∧
            (o = 0 →
              (w = 1 → busWrite false a w = .arrival e) ∧ (w = 0 → busWrite false a w = .withdrawal e) ∧
                (w = 4 → busWrite false a w = .cancelRequest e) ∧
                (w ≠ 0 → w ≠ 1 → w ≠ 4 → busWrite false a w = .handIllegal e w) ∧
                ∀ s, exec (busWrite false a w) s = exec (.handIllegal e w) s))

/-- Each host write that the port refuses, at the kind of refusal it is: HAND_ILLEGAL in every cell of R4's table that says so and
for a value from 5 on, ENTRY_LOCKED at a TAKEN or CANCEL hand, READ_ONLY. FAULT takes the first and keeps it, a further one sets
the more mark, EXCHANGE is set, and nothing else changes; discarded writes and bulk writes are no faults. -/
def Obligations.RefusedWritesRecordFirstFault : Prop :=
  ∀ (s : State) (e : Entry) (o : Fin 32) (w : Word), s.phase = .running →
    ((5 ≤ w.toNat ∨ (s.hand e = .free ∧ (w = 2 ∨ w = 3 ∨ w = 4)) ∨ (s.hand e = .posted ∧ (w = 2 ∨ w = 3)) ∨
        (s.hand e = .taken ∧ (w = 1 ∨ w = 3)) ∨ (s.hand e = .done ∧ (w = 1 ∨ w = 2)) ∨
        (s.hand e = .cancel ∧ (w = 1 ∨ w = 2 ∨ w = 3))) →
      exec (.handIllegal e w) s = .next (faulted s .handIllegal e 0)) ∧
      (o ≠ 0 → (s.hand e = .taken ∨ s.hand e = .cancel) →
        exec (.entryWordWrite e o w) s = .next (faulted s .entryLocked e o)) ∧
      exec (.readOnly w) s = .next (faulted s .readOnly 0 0) ∧
      (∀ k, s.port.fault.kind = .none →
        (faulted s k e o).port.fault = { kind := k, more := false, index := e, offset := o }) ∧
      (∀ k, s.port.fault.kind ≠ .none →
        (faulted s k e o).port.fault =
          { kind := s.port.fault.kind, more := true, index := s.port.fault.index, offset := s.port.fault.offset }) ∧
      (∀ k, (faulted s k e o).flag .exchange = true) ∧
      (∀ k f, f ≠ .exchange → (faulted s k e o).flag f = s.flag f) ∧
      (∀ a : Addr, 0x400 ≤ a.toNat → ∃ t, exec (.bulkWrite a w) s = .next t ∧ t.port = s.port) ∧
      ((s.hand e = .taken ∨ s.hand e = .cancel) → exec (.handIllegal e 0) s = .next s) ∧
      ((s.hand e = .posted ∨ s.hand e = .done) → exec (.handIllegal e 4) s = .next s)

/-! ## Orders -/

/-- A completion: the tag copied at the take in word 2, the result in word 16, the fifteen answer words, those not given 0; the
hand DONE and ORDER_DONE set; words 1 and 3 to 15 and everything else as it stood (R13). The twelve results have the codes of
11 section 11.3. -/
def Obligations.CompletionWritesEntry : Prop :=
  ([OrderResult.ok, .unknownKind, .badArgument, .notFitted, .busy, .wrongState, .locked, .roomShort, .cancelled, .failed,
      .overtaken, .restarted].map OrderResult.code = [0, 1, 2, 3, 4, 5, 6, 7, 8, 9, 10, 12]) ∧
  ∀ (s : State) (e : Entry) (tag : Word) (r : OrderResult) (answers : List Word), Memory.wf s.mem = true →
    let t := s.complete e (some tag) r answers
    t = { s with
        mem := t.mem, hands := upd s.hands e .done
        port := { s.port with summary := s.port.summary ||| Flag.orderDone.mask } } ∧
      Memory.wf t.mem = true ∧ t.hand e = .done ∧ t.flag .orderDone = true ∧ t.entryWord e 2 = tag ∧
      t.entryWord e 16 = r.code ∧ (∀ k, k < 15 → t.entryWord e (17 + k) = answers.getD k 0) ∧
      t.entryWord e 1 = s.entryWord e 1 ∧ (∀ w, 3 ≤ w → w ≤ 15 → t.entryWord e w = s.entryWord e w) ∧
      ∀ a, (∀ o, o < 32 → a ≠ 32 * e.1 + o) → t.memWord a = s.memWord a

/-- A kind outside the twenty-six ends UNKNOWN_KIND; a record number above the highest ends BAD_ARGUMENT; a screen or pump
number up to 5 but not below the fitted count ends NOT_FITTED; in each case no unit changes (R12, R200). -/
def Obligations.CommonChecksRefuse : Prop :=
  ∀ (s : State) (e : Entry) (rest : List Entry),
    (∀ k, k < 65536 → (k = 0 ∨ 0x1A < k) → AtHead s e rest k → Refused .unknownKind s e rest .unknownKind) ∧
      (∀ c k, (c, k) ∈ screenOrders → AtHead s e rest k →
        (5 < argNum s e 3 → Refused c s e rest .badArgument) ∧
          (argNum s e 3 ≤ 5 → s.fittedScreens ≤ argNum s e 3 → Refused c s e rest .notFitted)) ∧
      (∀ c k, (c, k) ∈ pumpOrders → AtHead s e rest k →
        (5 < argNum s e 3 → Refused c s e rest .badArgument) ∧
          (argNum s e 3 ≤ 5 → s.fittedPumps ≤ argNum s e 3 → Refused c s e rest .notFitted)) ∧
      ∀ c k, (c, k) ∈ sixteenOrders → AtHead s e rest k → 15 < argNum s e 3 → Refused c s e rest .badArgument

/-- DESCRIBE completes OK and changes no unit; its answer by leaf and sub-leaf (R24, R25). -/
def Obligations.DescribeAnswersByLeaf : Prop :=
  ∀ (s : State) (e : Entry) (rest : List Entry), AtHead s e rest 0x01 →
    let answer (l : List Word) : Prop := Ends .describe s e .ok l (takenState s e rest)
    (argNum s e 3 = 0 → argNum s e 4 = 0 → answer [4, 0x415A, 0x544C, 0x4F52, 0x2050]) ∧
      (argNum s e 3 = 1 → argNum s e 4 = 0 → answer [10, 340, 1, 32, 15360]) ∧
      (argNum s e 3 = 2 → argNum s e 4 = 0 → answer [word s.fittedScreens, word s.fittedPumps, 16, 16, 16, 64, 3]) ∧
      (argNum s e 3 = 3 → argNum s e 4 < 64 → answer [word (snapshotWordCount s (argWord s e 4))]) ∧
      (argNum s e 3 = 3 → 64 ≤ argNum s e 4 → answer []) ∧
      (argNum s e 3 = 4 → argNum s e 4 = 0 → s.tide.liveEdition = [] →
        answer [word s.tide.live.code, word s.tide.editionA.length, word s.tide.editionB.length, 0xFFFF, 0xFFFF,
          0xFFFF, 0xFFFF]) ∧
      (∀ a b, argNum s e 3 = 4 → argNum s e 4 = 0 → s.tide.liveEdition.head? = some a →
        s.tide.liveEdition.getLast? = some b →
          answer [word s.tide.live.code, word s.tide.editionA.length, word s.tide.editionB.length, word a.time,
            word (a.time / 65536), word b.time, word (b.time / 65536)]) ∧
      (argNum s e 3 ∈ [0, 1, 2, 4] → argNum s e 4 ≠ 0 → answer []) ∧
      (4 < argNum s e 3 → answer [])

/-- SNAPSHOT's checks in order (R27), and an accepted snapshot: header and selected sections stand from the bulk offset on as
the state is at the take, no other bulk word changes, and the size is answered; the counter of free values is the model's own
(log 11). A snapshot's size is 8 and the words of the selected sections (R26), and every word of its header and of each section's
blocks is laid out field by field (11 section 11.5) in the codes of R198; only a field with no value to show is free, within its
own bits (log 11). -/
def Obligations.SnapshotWritesStateAtTake : Prop :=
  (∀ (s : State) (e : Entry) (rest : List Entry), AtHead s e rest 0x02 → Memory.wf s.mem = true →
    s.fittedScreens ≤ 6 → s.fittedPumps ≤ 6 →
    let size := snapshotWordCount s (argWord s e 3)
    (64 ≤ argNum s e 3 → Refused .snapshot s e rest .badArgument) ∧
      (argNum s e 3 < 64 → (argNum s e 4 < 0x400 ∨ 16384 < argNum s e 4 + argNum s e 5) →
        Refused .snapshot s e rest .badArgument) ∧
      (argNum s e 3 < 64 → 0x400 ≤ argNum s e 4 → argNum s e 4 + argNum s e 5 ≤ 16384 → argNum s e 5 < size →
        Ends .snapshot s e .roomShort [word size] (takenState s e rest)) ∧
      (argNum s e 3 < 64 → 0x400 ≤ argNum s e 4 → argNum s e 4 + argNum s e 5 ≤ 16384 → size ≤ argNum s e 5 →
        ∃ m, Ends .snapshot s e .ok [word size]
            { takenState s e rest with mem := m, draws := s.draws + snapshotDraws } ∧ Memory.wf m = true ∧
          ∀ a, Memory.read m a =
            if argNum s e 4 ≤ a ∧ a < argNum s e 4 + size then
              ((takenState s e rest).snapshotWords (argWord s e 3)).getD (a - argNum s e 4) 0
            else Memory.read s.mem a)) ∧
    (∀ (s : State) (mask : Word), mask.toNat < 64 → s.fittedScreens ≤ 6 → s.fittedPumps ≤ 6 →
        let w := s.snapshotWords mask
        w.length = snapshotWordCount s mask ∧ w.getD 0 0 = mask ∧ w.getD 1 0 = word (snapshotWordCount s mask) ∧
          w.getD 2 0 = word s.time.clock.minuteCount ∧ w.getD 3 0 = word (s.time.clock.minuteCount / 65536) ∧
          w.getD 4 0 = word (bit s.time.clock.suspect + 2 * s.time.base.code) ∧
          w.getD 5 0 = word (s.fittedScreens + 256 * s.fittedPumps) ∧
          w.getD 6 0 = word (32768 * s.tide.live.code + s.tide.liveEdition.length) ∧ w.getD 7 0 = 1 ∧
          ∃ free : Nat → Word, w = snapshotLayout s mask free) ∧
    codesOfR198

/-! ## Power and RESET_N -/

/-- Power: the straps give the fitted counts, 0 taken as 1 and above 6 as 6, and every unit takes its cold-reset state (R20,
R21), whatever phase it comes in, RESET_N standing as the host drives it (log 12); the cold start-up's completion sets STARTED and
begins the restart delays (R170), or with RESET_N low leaves the part held, every unit as the fall of RESET_N leaves it (R20, O25;
log 13); a loss of supply stops
the part (01 section 1.5): it is silent, its outputs are off and INT is not driven (R20, log 23). -/
def Obligations.PowerCommands : Prop :=
  (∀ (s : State) (a b : BitVec 3),
    let screens := if a = 0 then 1 else if a = 7 then 6 else a.toNat
    let pumps := if b = 0 then 1 else if b = 7 then 6 else b.toNat
    exec (.powerApplication a b) s =
      .next { State.reset with
        pending := s.pending, resetLow := s.resetLow, draws := s.draws, fittedScreens := screens, fittedPumps := pumps
        duty := { State.reset.duty with
          roster := (List.finRange 6).filter fun p => p.1 < pumps, chokeLimit := pumps } }) ∧
    (∀ s : State, s.phase = .coldStart → s.resetLow = false →
      exec .coldStartUpCompletion s =
        .next { s with
          phase := .running
          port := { s.port with summary := s.port.summary ||| Flag.started.mask }
          pumps := { s.pumps with
            records := tab fun p =>
              if s.pumpFitted p then { s.pump p with delayRemaining := (s.pump p).restartDelay, delayDue := false }
              else s.pump p } }) ∧
    (∀ s : State, s.phase = .coldStart → s.resetLow = true →
      exec .coldStartUpCompletion s = exec .resetNFall { s with phase := .running } ∧
      ∃ t, exec .coldStartUpCompletion s = .next t ∧ t.phase = .held ∧ t.port.summary = 0 ∧ t.mem = s.mem ∧
        t.hands = s.hands ∧ t.intake = s.intake) ∧
    ∀ s : State, ∃ t, exec .supplyLoss s = .next t ∧ t = { s with phase := .unpowered } ∧
      (∀ sel a, t.hostRead sel a = none) ∧ t.intLine = none ∧
      (∀ n, t.driveLine n = false ∧ t.fastLine n = false ∧ t.sprayLine n = false) ∧ ∀ p, t.runLine p = false

/-- The fall of RESET_N, unit by unit: the port and the time, level, tide and alarm units (R22, R35, R48, R56, R61, R67, R85,
R111), the screen, wash, pump and duty units (R136, R150, R171, R197), records that are not fitted keeping their values (R113,
R151); the first scan after the release counts every code as differing (R52), and the mark is kept as it stood at the fall, no
failure in the hold being recorded yet (R35); what was on its way reaches no unit (log 2) and the gauge in use is shown held
(log 4). -/
def Obligations.ResetFallHoldsPart : Prop :=
  (∀ s : State, s.phase = .running →
    ∃ t, exec .resetNFall s = .next t ∧ t.phase = .held ∧ t.resetLow = true ∧ t.port.summary = 0 ∧ t.port.enable = 0 ∧
      t.port.fault.toWord = 0 ∧ t.mem = s.mem ∧ t.hands = s.hands ∧ t.intake = s.intake ∧
      t.fittedScreens = s.fittedScreens ∧ t.fittedPumps = s.fittedPumps ∧ t.time.base = s.time.base ∧
      t.time.divider = s.time.divider ∧ t.time.confirm = s.time.confirm ∧ t.time.clock = s.time.clock ∧
      t.time.failedInHold = false ∧ t.time.suspectAtFall = s.time.clock.suspect ∧ t.level.scanned = false ∧
      (∀ i, t.timer i = { s.timer i with running := false, count := (s.timer i).preset }) ∧
      (∀ n, (sel s.level.channels n).quality = .unconfigured →
        sel t.level.channels n = { sel s.level.channels n with filter := [], runLength := 0 }) ∧
      (∀ n, (sel s.level.channels n).quality ≠ .unconfigured →
        sel t.level.channels n = { sel s.level.channels n with quality := .filling, filter := [], runLength := 0 }) ∧
      t.level.band = s.level.band ∧ t.level.seaValue = s.level.seaValue ∧ t.level.seaQuality = .lost ∧
      t.level.gauge = .held ∧ t.level.history = [] ∧ t.tide = s.tide ∧ t.alarm = s.alarm ∧ t.wires = Wires.empty) ∧
    (∀ s : State, s.phase = .running →
        ∃ t, exec .resetNFall s = .next t ∧
          (∀ n, s.screenFitted n = false → t.screen n = s.screen n) ∧
          (∀ n, s.screenFitted n = true →
            t.screen n =
              { s.screen n with
                state := .parked, fast := false, turnWatch := none, rundownClock := none
                causes := { interval := false, differential := false, tide := false, order := false }
                stored := { interval := false, differential := false, tide := false, order := false }
                turnsDone := 0, turnsWanted := (s.screen n).configTurns, choked := false, again := false
                lastDp := { value := (s.screen n).lastDp.value, valid := false }, dpReached := false } ∧
              t.driveLine n = false ∧ t.fastLine n = false ∧ t.sprayLine n = false) ∧
          t.wash =
            { s.wash with
              slots := 0, pressurised := false, lossCount := 0, running := 0
              lastH := { value := s.wash.lastH.value, quality := .filling }, queue := [] } ∧
          (∀ p, s.pumpFitted p = false → t.pump p = s.pump p) ∧
          (∀ p, s.pumpFitted p = true →
            t.pump p =
              { s.pump p with
                state := .stopped, proveWatch := none, lossWatch := none, stoppingClock := none, submergenceCount := 0
                delayRemaining := (s.pump p).restartDelay, delayDue := false, available := false } ∧
              t.runLine p = false) ∧
          t.pumps.lastW = { value := s.pumps.lastW.value, quality := .filling } ∧
          (s.duty.savedRoster = none → t.duty.roster = s.duty.roster) ∧
          (∀ r, s.duty.savedRoster = some r → t.duty.roster = r) ∧ t.duty.savedRoster = none ∧
          t.duty.chokeLimit = s.duty.chokeLimit ∧ t.duty.demand = 0 ∧ t.duty.limit = 0 ∧ t.duty.lock = false ∧
          t.duty.rotationPending = false ∧ t.duty.shortfall = false ∧ t.duty.move = .none ∧
          t.duty.changeOrder = s.duty.changeOrder ∧ t.duty.chokeCopy = false ∧ t.duty.floorCopy = none ∧
          t.duty.holdCopy = false ∧
          (∀ p, sel t.duty.view p = { state := .stopped, available := false, stopSent := false }) ∧
          t.duty.lastW = { value := s.duty.lastW.value, quality := .filling })

/-- The release of RESET_N sweeps the order table (R23): every POSTED, TAKEN or CANCEL entry is completed RESTARTED with all
answer words 0, its tag from the holder if it was taken; FREE and DONE entries and the bulk area stand; the intake queue is
empty, no unit holds an entry, STARTED is set, and ORDER_DONE if an entry was completed. Outside the hold the line's level alone
is noted (the model's choice, log 12). After the sweep the time unit (R35), the tide unit with TIDE by its recomputation (R85,
R79), the alarm unit (R111), the screen unit (R136) and the pump unit (R171) restart, in an order that is the model's choice
(log 21). Everything else stands: the pumps that are not fitted, of a fitted pump all but its availability, of a screen all but
its wash order, the duty record but for the change order, the other SUMMARY flags, ENABLE, FAULT, and what was on its way beside
the messages named. The running limit before is what its terms give, as O10 keeps it. -/
def Obligations.ResetReleaseSweepsAndRestarts : Prop :=
  ((∀ s : State, s.phase ≠ .held → exec .resetNRelease s = .next { s with resetLow := false }) ∧
    ∀ s : State, s.phase = .held → ExchangeInv s →
      ∃ t, exec .resetNRelease s = .next t ∧ t.phase = .running ∧ t.resetLow = false ∧ t.intake = [] ∧
        t.flag .started = true ∧
        (t.flag .orderDone = true ↔
          s.flag .orderDone = true ∨ ∃ e, s.hand e ≠ .free ∧ s.hand e ≠ .done) ∧
        (∀ n, t.screen n = { s.screen n with washOrder := none }) ∧ t.duty.changeOrder = none ∧ Memory.wf t.mem = true ∧
        (∀ a, 0x400 ≤ a → Memory.read t.mem a = Memory.read s.mem a) ∧
        (∀ e, s.hand e = .free ∨ s.hand e = .done →
          t.hand e = s.hand e ∧ ∀ o, 1 ≤ o → o < 32 → t.entryWord e o = s.entryWord e o) ∧
        (∀ e, s.hand e ≠ .free → s.hand e ≠ .done →
          t.hand e = .done ∧ t.entryWord e 16 = 12 ∧ (∀ k, k < 15 → t.entryWord e (17 + k) = 0) ∧
            t.entryWord e 1 = s.entryWord e 1 ∧ ∀ o, 3 ≤ o → o ≤ 15 → t.entryWord e o = s.entryWord e o) ∧
        (∀ e, s.hand e = .posted → t.entryWord e 2 = s.entryWord e 2) ∧
        (∀ n o, (s.screen n).washOrder = some o → t.entryWord o.entry 2 = o.tag) ∧
        ∀ o, s.duty.changeOrder = some o → t.entryWord o.entry 2 = o.tag) ∧
    (∀ s : State, s.phase = .held → s.duty.limit = runningLimit s.duty →
        ∃ t, exec .resetNRelease s = .next t ∧
          t = { s with
            phase := .running, resetLow := false, intake := [], mem := t.mem, hands := t.hands
            port := { s.port with summary := t.port.summary }, screens := t.screens, tide := t.tide
            alarm := t.alarm, pumps := { s.pumps with records := t.pumps.records }
            duty := { s.duty with changeOrder := t.duty.changeOrder }
            wires := { s.wires with
              toTide := t.wires.toTide, toAlarm := t.wires.toAlarm, actionChanges := t.wires.actionChanges
              chokeChanges := t.wires.chokeChanges, pumpReports := t.wires.pumpReports } } ∧
          (∀ f, f ∉ [Flag.started, .orderDone, .timebase, .tide] → t.flag f = s.flag f) ∧
          (∀ n, t.screen n = { s.screen n with washOrder := (t.screen n).washOrder }) ∧
          (t.flag .timebase = true ↔ s.flag .timebase = true ∨ s.time.failedInHold = true) ∧
          (t.flag .tide = true ↔
            s.flag .tide = true ∨ (s.tide.valid = true ∧ t.tide.valid = false) ∨
              (s.tide.short = false ∧ t.tide.short = true)) ∧
          t.wires.toTide = s.wires.toTide ++
            (if s.time.clock.suspect && !s.time.suspectAtFall then [.suspectChange true] else []) ∧
          t.wires.toAlarm = s.wires.toAlarm ++
            (if s.time.clock.suspect && !s.time.suspectAtFall then [.suspectChange true] else []) ∧
          t.tide =
            { s.tide with now := s.time.clock.minuteCount, suspect := s.time.clock.suspect }.recomputed ∧
          t.alarm.now = s.time.clock.minuteCount ∧ t.alarm.suspect = s.time.clock.suspect ∧
          (∀ i, (sel s.alarm.records i).enabled = true → (sel s.alarm.records i).kind = .tideLead →
            sel t.alarm.records i =
              (sel s.alarm.records i).arm s.time.clock.minuteCount s.time.clock.suspect s.tide.liveEdition) ∧
          (∀ i, ¬((sel s.alarm.records i).enabled = true ∧ (sel s.alarm.records i).kind = .tideLead) →
            sel t.alarm.records i = sel s.alarm.records i) ∧
          t.wires.actionChanges = s.wires.actionChanges ++ [(s.alarm.floor, s.alarm.holdState)] ∧
          t.wires.chokeChanges = s.wires.chokeChanges ++ [false] ∧
          (∀ p, s.pumpFitted p = true → t.pump p = { s.pump p with available := s.canStart p }) ∧
          (∀ p, s.pumpFitted p = false → t.pump p = s.pump p) ∧
          t.wires.pumpReports = s.wires.pumpReports ++
            (indices s.pumpFitted).map fun p =>
              { pump := p, state := (s.pump p).state, service := (s.pump p).service, available := s.canStart p
                lastStop := (s.pump p).lastStop, refused := false })

/-! ## Time base, clock and timer bank -/

/-- The time base: the crystal confirmed leaves the mark and sets no flag (R28, R30); a gap in CRYSTAL falls back to RC, sets the
mark and TIMEBASE, and is a suspect-change if the mark was clear (R29, R34), in the hold recorded for the release (R35); in
RC_START and RC_FALLBACK a gap restarts the confirm period alone (R28, R29). Commanded events are not gated by the count of the
confirm period (log 6); in the cold start-up no event is sent (log 14). -/
def Obligations.TimeBaseEvents : Prop :=
  ∀ s : State, s.phase ≠ .unpowered →
    (s.time.base ≠ .crystal →
      exec .crystalConfirmed s = .next { s with time := { s.time with base := .crystal, confirm := 0 } } ∧
        exec .crystalFailure s = .next { s with time := { s.time with confirm := 0 } } ∧
        exec .confirmPeriodRestart s = .next { s with time := { s.time with confirm := 0 } }) ∧
      (s.time.base = .crystal → exec .crystalConfirmed s = .next s ∧ exec .confirmPeriodRestart s = .next s) ∧
      (s.time.base = .crystal →
        let fallen := { s.time with
          base := .rcFallback, confirm := 0, clock := { s.time.clock with suspect := true } }
        (s.phase = .running → s.time.clock.suspect = true →
          exec .crystalFailure s = .next (withFlag { s with time := fallen } .timebase)) ∧
          (s.phase = .running → s.time.clock.suspect = false →
            exec .crystalFailure s =
              .next (withFlag
                { s with
                  time := fallen
                  wires := { s.wires with
                    toTide := s.wires.toTide ++ [.suspectChange true]
                    toAlarm := s.wires.toAlarm ++ [.suspectChange true] } } .timebase)) ∧
          (s.phase = .coldStart → exec .crystalFailure s = .next (withFlag { s with time := fallen } .timebase)) ∧
          (s.phase = .held → exec .crystalFailure s = .next { s with time := { fallen with failedInHold := true } }))

/-- A second step, whole, by phase. It restarts the divider and steps the clock with its carries (R31); the century end loads
2000-01-01 00:00:00 with weekday 5, minute count 0 and the mark set (R33). In the cold start-up nothing else changes (R35).
While the part runs or is held, every watch and clock that runs counts a second down to 0, where its expiry is due and is an
event of its own (log 7), a RUNNING pump counts the second (R159), and a STOPPED one its restart delay: above 1 it is
decremented, and at 1 its end is due, an event of its own (R161, R171, log 8). While the part runs the unit ticks and the minute
event are sent (R32), or at the century end a time-set event and, if the mark was clear, a suspect-change event (R33; log 21 for
the order of both). Nothing else changes, and without supply nothing does (R20). -/
def Obligations.SecondStepCarriesSendsAndCounts : Prop :=
  ∀ s : State, ClockInv s →
    let c := s.time.clock
    let lastMinute := c.second = 59
    let lastHour := lastMinute ∧ c.minute = 59
    let lastDay := lastHour ∧ c.hour = 23
    let lastMonth := lastDay ∧ c.day = monthDays c.year c.month
    let lastYear := lastMonth ∧ c.month = 12
    let centuryEnd := lastYear ∧ c.year = 2099
    let new : Clock :=
      if centuryEnd then
        { year := 2000, month := 1, day := 1, weekday := 5, hour := 0, minute := 0, second := 0, minuteCount := 0
          suspect := true }
      else
        { year := if lastYear then c.year + 1 else c.year
          month := if lastYear then 1 else if lastMonth then c.month + 1 else c.month
          day := if lastMonth then 1 else if lastDay then c.day + 1 else c.day
          weekday := if lastDay then (c.weekday + 1) % 7 else c.weekday
          hour := if lastDay then 0 else if lastHour then c.hour + 1 else c.hour
          minute := if lastHour then 0 else if lastMinute then c.minute + 1 else c.minute
          second := if lastMinute then 0 else c.second + 1
          minuteCount := if lastMinute then c.minuteCount + 1 else c.minuteCount
          suspect := c.suspect }
    let time := { s.time with divider := 0, clock := new }
    let counted (watch : Option Nat) := watch.map fun r => r - 1
    let pump (x : Pump) : Pump :=
      { x with
        proveWatch := counted x.proveWatch, lossWatch := counted x.lossWatch, stoppingClock := counted x.stoppingClock
        runSeconds := if x.state = .running then (if x.runSeconds < 59 then x.runSeconds + 1 else 0) else x.runSeconds
        runMinutes :=
          if x.state = .running ∧ 59 ≤ x.runSeconds then min (x.runMinutes + 1) 4294967295 else x.runMinutes
        delayRemaining :=
          if x.state = .stopped ∧ 1 < x.delayRemaining then x.delayRemaining - 1 else x.delayRemaining
        delayDue := if x.state = .stopped then decide (x.delayRemaining = 1) else x.delayDue }
    let pumps := { s.pumps with records := tab fun p => pump (s.pump p) }
    let screen (x : Screen) : Screen :=
      { x with turnWatch := counted x.turnWatch, rundownClock := counted x.rundownClock }
    let minute := TimeEvent.minute
      { count := new.minuteCount, hour := new.hour, minute := new.minute, weekday := new.weekday, day := new.day
        suspect := new.suspect }
    let jump := TimeEvent.timeSet 52595999 0 true
    let marked := if c.suspect then [] else [TimeEvent.suspectChange true]
    let ticks := [TickUnit.second] ++ (if lastMinute then [.minute] else []) ++
      (if lastMinute ∧ new.minute ∈ [0, 15, 30, 45] then [.quarterHour] else []) ++
      if lastMinute ∧ new.minute = 0 then [.hour] else []
    let sent := if centuryEnd then [jump] else if lastMinute then [minute] else []
    let markSent := if centuryEnd then marked else []
    (s.phase = .unpowered → exec .secondStep s = .next s) ∧
      (s.phase = .coldStart → exec .secondStep s = .next { s with time := time }) ∧
      (s.phase = .held → exec .secondStep s = .next { s with time := time, pumps := pumps }) ∧
      (s.phase = .running →
        exec .secondStep s =
          .next { s with
            time := time, pumps := pumps, screens := tab fun n => screen (s.screen n)
            wires := { s.wires with
              ticks := s.wires.ticks ++ ticks, toTide := s.wires.toTide ++ (sent ++ markSent)
              toLevel := s.wires.toLevel ++ sent, toAlarm := s.wires.toAlarm ++ (sent ++ markSent) } })

/-- SET_TIME: a date or time out of range is refused with the clock unchanged; otherwise the clock loads it with the weekday and
minute count that agree, the divider restarts, the mark is cleared and the time-set event goes to the three units (R36, R37). -/
def Obligations.SetTimeLoadsClock : Prop :=
  ∀ (s : State) (e : Entry) (rest : List Entry), AtHead s e rest 0x03 →
    let c := s.time.clock
    let days := daysSince2000 (argNum s e 3) (argNum s e 4) (argNum s e 5)
    let now := 1440 * days + 60 * argNum s e 6 + argNum s e 7
    let ok := dateInRange (argNum s e 3) (argNum s e 4) (argNum s e 5) (argNum s e 6) (argNum s e 7) (argNum s e 8)
    (¬ok → Refused .setTime s e rest .badArgument) ∧
      (ok →
        Ends .setTime s e .ok
          [word c.minuteCount, word (c.minuteCount / 65536), word (bit c.suspect), word ((5 + days) % 7)]
          { takenState s e rest with
            time := { s.time with
              divider := 0
              clock :=
                { year := argNum s e 3, month := argNum s e 4, day := argNum s e 5, weekday := (5 + days) % 7
                  hour := argNum s e 6, minute := argNum s e 7, second := argNum s e 8, minuteCount := now
                  suspect := false } }
            wires := { s.wires with
              toTide := s.wires.toTide ++ [.timeSet c.minuteCount now false]
              toLevel := s.wires.toLevel ++ [.timeSet c.minuteCount now false]
              toAlarm := s.wires.toAlarm ++ [.timeSet c.minuteCount now false] } })

/-- SET_TIMER on timer `t`: the refusals in order (R42); the preset alone on a running timer with start 0 (R44); else the whole
record, the count at the preset and the expiry count 0 (R43). -/
def Obligations.SetTimerRewritesOrChangesPreset : Prop :=
  ∀ (s : State) (e : Entry) (rest : List Entry) (t : TimerNo), AtHead s e rest 0x04 → argNum s e 3 = t.1 →
    let x := s.timer t
    let answers := [word x.count, word x.expiries]
    let inRange := argNum s e 4 ≤ 3 ∧ argNum s e 8 ≤ 1 ∧ 1 ≤ argNum s e 7 ∧ argNum s e 7 ≤ 4095
    let presetOnly := x.running = true ∧ argNum s e 8 = 0
    (¬inRange → Refused .setTimer s e rest .badArgument) ∧
      (inRange → presetOnly →
        Ends .setTimer s e .ok answers
          { takenState s e rest with time := { s.time with
            timers := upd s.time.timers t { x with preset := argNum s e 7 } } }) ∧
      (inRange → ¬presetOnly → 3 < argNum s e 6 → Refused .setTimer s e rest .badArgument) ∧
      (inRange → ¬presetOnly → argNum s e 6 ≤ 3 → argNum s e 4 = 1 → 5 < argNum s e 5 →
        Refused .setTimer s e rest .badArgument) ∧
      (inRange → ¬presetOnly → argNum s e 6 ≤ 3 → argNum s e 4 = 1 → argNum s e 5 ≤ 5 →
        s.fittedScreens ≤ argNum s e 5 → Refused .setTimer s e rest .notFitted) ∧
      ∀ (o : TimerOwner) (u : TickUnit), inRange → ¬presetOnly → u.code = argNum s e 6 → o.code = argNum s e 4 →
        (∀ n, o = .screen n → argNum s e 5 = n.1 ∧ s.screenFitted n = true) →
          ((o ≠ .none ∧ o ≠ .report ∧ ∃ v, v ≠ t ∧ (s.timer v).owner = o) → Refused .setTimer s e rest .busy) ∧
            (¬(o ≠ .none ∧ o ≠ .report ∧ ∃ v, v ≠ t ∧ (s.timer v).owner = o) →
              Ends .setTimer s e .ok answers
                { takenState s e rest with time := { s.time with
                  timers := upd s.time.timers t
                    { owner := o, unit := u, preset := argNum s e 7, count := argNum s e 7
                      running := argNum s e 8 == 1, expiries := 0 } } })

/-- STOP_TIMER: a timer above 15 is BAD_ARGUMENT; else the mark is cleared, the count loaded from the preset, the rest kept,
nothing delivered, and the count and expiry count before the take answered. -/
def Obligations.StopTimerReloadsCount : Prop :=
  ∀ (s : State) (e : Entry) (rest : List Entry), AtHead s e rest 0x05 →
    (15 < argNum s e 3 → Refused .stopTimer s e rest .badArgument) ∧
      ∀ t : TimerNo, argNum s e 3 = t.1 →
        Ends .stopTimer s e .ok [word (s.timer t).count, word (s.timer t).expiries]
          { takenState s e rest with time := { s.time with
            timers := upd s.time.timers t { s.timer t with running := false, count := (s.timer t).preset } } } ∧
          ((s.timer t).running = false → (s.timer t).count = (s.timer t).preset →
            Ends .stopTimer s e .ok [word (s.timer t).count, word (s.timer t).expiries] (takenState s e rest))

/-- The timer bank: a tick steps every running timer of its unit whose count is above 1, and at a count of 1 stands until the
expiry, a command of its own (R38, log 9); an expiry reloads the count, counts up to 65535 and tells the owner (R38, R40); an
interval restart reloads the screen's timer if it runs (R46). -/
def Obligations.TimerBankEvents : Prop :=
  ∀ s : State, s.phase = .running → TimerInv s →
    (∀ u rest, s.wires.ticks = u :: rest →
      exec .unitTick s =
        .next { s with
          time := { s.time with
            timers := tab fun t =>
              if (s.timer t).running = true ∧ (s.timer t).unit = u ∧ 1 < (s.timer t).count then
                { s.timer t with count := (s.timer t).count - 1 }
              else s.timer t }
          wires := { s.wires with
            ticks := rest
            dueSteps := s.wires.dueSteps ++ (indices fun t =>
              (s.timer t).running && (s.timer t).unit == u && (s.timer t).count == 1).map fun t => (t, u) } }) ∧
      (∀ (t : TimerNo) (u : TickUnit) pre post,
        s.wires.dueSteps = pre ++ (t, u) :: post → (∀ d ∈ pre, d.1 ≠ t) →
          let x := s.timer t
          let rest := { s.wires with dueSteps := pre ++ post }
          let bank := { s.time with
            timers := upd s.time.timers t { x with count := x.preset, expiries := min (x.expiries + 1) 65535 } }
          (¬(x.running = true ∧ x.unit = u) → exec (.timerExpiry t) s = .next (withWires s rest)) ∧
            (x.running = true → x.unit = u → 1 < x.count →
              exec (.timerExpiry t) s =
                .next { s with
                  wires := rest
                  time := { s.time with timers := upd s.time.timers t { x with count := x.count - 1 } } }) ∧
            (x.running = true → x.unit = u → x.count = 1 →
              (x.owner = .none → exec (.timerExpiry t) s = .next { s with wires := rest, time := bank }) ∧
                (∀ n, x.owner = .screen n →
                  exec (.timerExpiry t) s =
                    .next { s with
                      wires := { rest with washRequests := s.wires.washRequests ++ [(n, .interval)] }, time := bank }) ∧
                (x.owner = .rotation →
                  exec (.timerExpiry t) s =
                    .next { s with
                      wires := { rest with rotationExpiries := s.wires.rotationExpiries + 1 }, time := bank }) ∧
                (x.owner = .report →
                  exec (.timerExpiry t) s = .next (withFlag { s with wires := rest, time := bank } .timer)))) ∧
      ∀ (n : ScreenNo) pre post, s.wires.intervalRestarts = pre ++ n :: post → n ∉ pre →
        let rest := { s.wires with intervalRestarts := pre ++ post }
        (∀ t, (s.timer t).owner = .screen n → (s.timer t).running = true →
          exec (.intervalRestart n) s =
            .next { s with
              wires := rest
              time := { s.time with
                timers := upd s.time.timers t { s.timer t with count := (s.timer t).preset } } }) ∧
          ((∀ t, (s.timer t).owner = .screen n → (s.timer t).running = false) →
            exec (.intervalRestart n) s = .next (withWires s rest))

/-! ## Level board -/

/-- SET_CHANNEL: its checks (R54) and, accepted, the configuration stored, the filter emptied, the run length 0, the quality
FILLING, value and last raw code kept, the old quality and filter length answered (R55). SET_SEA: a band above 1000 refused, else
the band stored and the one before it answered (R60). -/
def Obligations.SetChannelAndSetSea : Prop :=
  (∀ (s : State) (e : Entry) (rest : List Entry) (n : Fin 16), AtHead s e rest 0x06 → argNum s e 3 = n.1 →
    let c := sel s.level.channels n
    let ok := argNum s e 4 < argNum s e 5 ∧ argNum s e 5 ≤ 4095 ∧ argWord s e 6 ≠ argWord s e 7 ∧
      (n = 15 → argNum s e 6 ≤ 2000 ∧ argNum s e 7 ≤ 2000) ∧ argNum s e 8 < argNum s e 9 ∧ argNum s e 9 ≤ 4095 ∧
      argNum s e 10 ≤ 255
    (¬ok → Refused .setChannel s e rest .badArgument) ∧
      (ok →
        Ends .setChannel s e .ok [word c.quality.code, word c.filter.length]
          { takenState s e rest with level := { s.level with
            channels := upd s.level.channels n
              { c with
                rawLow := argNum s e 4, rawHigh := argNum s e 5
                engLow := if n = 15 then (argNum s e 6 : Int) else argInt s e 6
                engHigh := if n = 15 then (argNum s e 7 : Int) else argInt s e 7
                faultLow := argNum s e 8, faultHigh := argNum s e 9, stuckWindow := argNum s e 10
                quality := .filling, filter := [], runLength := 0 } } })) ∧
    (∀ (s : State) (e : Entry) (rest : List Entry), AtHead s e rest 0x07 →
        (1000 < argNum s e 3 → Refused .setSea s e rest .badArgument) ∧
          (argNum s e 3 ≤ 1000 →
            Ends .setSea s e .ok [word s.level.band]
              { takenState s e rest with level := { s.level with band := argNum s e 3 } }))

/-- Each channel at a scan completion: every channel records its code, and an UNCONFIGURED one does nothing more (R50); a
configured one takes quality and filter from the table of R50, its value from four codes where it is GOOD (R51), its run length
(R52; the first scan after a reset counts the code as differing), and then makes the stuck check (R53). -/
def Obligations.ScanHandlesEachChannel : Prop :=
  ∀ (s : State) (codes : Vector RawCode 16), s.phase = .running →
    ∃ t, exec (.scanCompletion codes) s = .next t ∧ t.level.scanned = true ∧ t.level.history = s.level.history ∧
      t.level.band = s.level.band ∧
      ∀ n : Fin 16,
        let c := sel s.level.channels n
        let d := sel t.level.channels n
        let code := (sel codes n).toNat
        let same := s.level.scanned && code == c.lastRaw
        let table := sampleOutcome c code same
        let run := if c.stuckWindow = 0 then 0 else if same then min (c.runLength + 1) (120 * c.stuckWindow) else 0
        let value := if n = 15 then max 0 (min 2000 (scaledValue c table.2))
          else max (-32768) (min 32767 (scaledValue c table.2))
        (c.quality = .unconfigured → d = { c with lastRaw := code }) ∧
          (c.quality ≠ .unconfigured →
            let stuck := c.stuckWindow ≠ 0 ∧ 120 * c.stuckWindow ≤ run ∧ (table.1 = .filling ∨ table.1 = .good)
            (stuck →
              d = { c with
                lastRaw := code, runLength := run, quality := .stuck, filter := []
                value := if table.1 = .good then value else c.value }) ∧
              (¬stuck →
                d = { c with
                  lastRaw := code, runLength := run, quality := table.1, filter := table.2
                  value := if table.1 = .good then value else c.value }))

/-- The sea record after a scan completion, by the rows of R57, from the gauges as they stand after the scan and the prediction
as it stands, and the gauge in use: the mean, G0, G1, or held where neither is GOOD (R57, R198; log 4 for held); nothing but
these, the channels, SEA and the messages of the scan changes. SEA is set exactly at a change of sea quality (R59), and the sea
report (R64), the W and H reports (R63) and one differential for each fitted screen, valid with both channels GOOD and clamped
(R62; log 17 for the value shown while INVALID), are sent with the values after the scan. -/
def Obligations.ScanRecordsSeaAndReports : Prop :=
  (∀ (s : State) (codes : Vector RawCode 16), s.phase = .running →
    ∃ t, exec (.scanCompletion codes) s = .next t ∧
      t = { s with level := t.level, port := t.port, wires := t.wires } ∧
      (let g0 := sel t.level.channels 0
       let g1 := sel t.level.channels 1
       let apart := (g0.value - g1.value).natAbs
       let from0 := (g0.value - s.tide.level).natAbs
       let from1 := (g1.value - s.tide.level).natAbs
       (g0.quality = .good → g1.quality = .good → apart ≤ s.level.band →
          t.level.seaValue = Int.fdiv (g0.value + g1.value) 2 ∧ t.level.seaQuality = .good ∧ t.level.gauge = .mean) ∧
        (g0.quality = .good → g1.quality = .good → s.level.band < apart → s.tide.valid = true →
          t.level.seaValue = (if from1 < from0 then g1.value else g0.value) ∧ t.level.seaQuality = .disagree ∧
            t.level.gauge = if from1 < from0 then .g1 else .g0) ∧
        (g0.quality = .good → g1.quality = .good → s.level.band < apart → s.tide.valid = false →
          t.level.seaValue = g0.value ∧ t.level.seaQuality = .disagree ∧ t.level.gauge = .g0) ∧
        (g0.quality = .good → g1.quality ≠ .good →
          t.level.seaValue = g0.value ∧ t.level.seaQuality = .single ∧ t.level.gauge = .g0) ∧
        (g1.quality = .good → g0.quality ≠ .good →
          t.level.seaValue = g1.value ∧ t.level.seaQuality = .single ∧ t.level.gauge = .g1) ∧
        (g0.quality ≠ .good → g1.quality ≠ .good →
          t.level.seaValue = s.level.seaValue ∧ t.level.seaQuality = .lost ∧ t.level.gauge = .held))) ∧
    (∀ (s : State) (codes : Vector RawCode 16), s.phase = .running →
        ∃ t, exec (.scanCompletion codes) s = .next t ∧
          (t.level.seaQuality ≠ s.level.seaQuality → t.port = (withFlag s .sea).port) ∧
          (t.level.seaQuality = s.level.seaQuality → t.port = s.port) ∧
          (let w := sel t.level.channels 14
           let h := sel t.level.channels 15
           let d (n : ScreenNo) : Differential :=
            let u := sel t.level.channels ⟨2 + n.1, by omega⟩
            let b := sel t.level.channels ⟨8 + n.1, by omega⟩
            { value := max (-32768) (min 32767 (u.value - b.value)), valid := u.quality == .good && b.quality == .good }
           t.wires =
            { s.wires with
              seaReports := s.wires.seaReports ++ [(t.level.seaValue, t.level.seaQuality)]
              diffReports := s.wires.diffReports ++ [(indices s.screenFitted).map fun n => (n, d n)]
              wToPump := s.wires.wToPump ++ [{ value := w.value, quality := w.quality }]
              wToDuty := s.wires.wToDuty ++ [{ value := w.value, quality := w.quality }]
              hReports := s.wires.hReports ++ [{ value := h.value, quality := h.quality }] }))

/-- The minute history: a minute event appends the sea value and quality, the oldest of eleven leaving first (R65), and reports
the rate, valid with eleven entries none of them LOST (R66); a time-set event empties it and reports an invalid rate (R67). -/
def Obligations.MinuteHistoryAndRate : Prop :=
  ∀ s : State, s.phase = .running →
    (∀ m rest, s.wires.toLevel = .minute m :: rest →
      let entry := (s.level.seaValue, s.level.seaQuality)
      let h := if s.level.history.length < 11 then s.level.history ++ [entry] else s.level.history.drop 1 ++ [entry]
      let t (rate : Int × Bool) : State :=
        { s with
          level := { s.level with history := h }
          wires := { s.wires with toLevel := rest, rateReports := s.wires.rateReports ++ [rate] } }
      ((h.length ≠ 11 ∨ ∃ x ∈ h, x.2 = .lost) → exec .minuteEventLevel s = .next (t (0, false))) ∧
        (∀ oldest, h.length = 11 → (∀ x ∈ h, x.2 ≠ .lost) → h.head? = some oldest →
          exec .minuteEventLevel s =
            .next (t (max (-32768) (min 32767 (s.level.seaValue - oldest.1)), true)))) ∧
      ∀ old new mark rest, s.wires.toLevel = .timeSet old new mark :: rest →
        exec .timeSetEventLevel s =
          .next { s with
            level := { s.level with history := [] }
            wires := { s.wires with toLevel := rest, rateReports := s.wires.rateReports ++ [(0, false)] } }

/-! ## Tide table -/

/-- A recomputation: VALID with the mark clear and now in a pair of the live edition, else NONE with P held (R75); P of the pair
by the rule of twelfths, rounded down (R76); the next high and low water strictly after now (R77); the short mark with fewer
than four events after now (R78). -/
def Obligations.PredictionByTwelfths : Prop :=
  ∀ t : Tide, (t.liveEdition.Pairwise fun a b => a.time < b.time) →
    let u := t.recomputed
    ((t.suspect = true ∨ ¬∃ (pre : List TideEvent) (a b : TideEvent) (post : List TideEvent),
        t.liveEdition = pre ++ a :: b :: post ∧ a.time ≤ t.now ∧ t.now < b.time) →
      u.valid = false ∧ u.level = t.level) ∧
      (∀ (pre : List TideEvent) (a b : TideEvent) (post : List TideEvent), t.suspect = false →
        t.liveEdition = pre ++ a :: b :: post → a.time ≤ t.now → t.now < b.time →
        let d := b.time - a.time
        let k := 6 * (t.now - a.time) / d
        let r := 6 * (t.now - a.time) - k * d
        let c (j : Nat) : Int := [0, 1, 3, 6, 9, 11, 12].getD j 12
        let num : Int := c k * d + (c (k + 1) - c k) * r
        u.valid = true ∧ k ≤ 5 ∧ u.level = a.height + Int.fdiv ((b.height - a.height) * num) (12 * d) ∧
          (t.now = a.time → u.level = a.height) ∧
          (a.height ≤ b.height → a.height ≤ u.level ∧ u.level ≤ b.height) ∧
          (b.height ≤ a.height → b.height ≤ u.level ∧ u.level ≤ a.height)) ∧
      (∀ e, u.nextHigh = some e ↔
        ∃ (pre : List TideEvent) (x : TideEvent) (post : List TideEvent), t.liveEdition = pre ++ x :: post ∧ x.kind = .high ∧ t.now < x.time ∧
          e = (x.time, x.height) ∧ ∀ y ∈ pre, ¬(y.kind = .high ∧ t.now < y.time)) ∧
      (∀ e, u.nextLow = some e ↔
        ∃ (pre : List TideEvent) (x : TideEvent) (post : List TideEvent), t.liveEdition = pre ++ x :: post ∧ x.kind = .low ∧ t.now < x.time ∧
          e = (x.time, x.height) ∧ ∀ y ∈ pre, ¬(y.kind = .low ∧ t.now < y.time)) ∧
      (u.short = true ↔ (t.liveEdition.filter fun x => t.now < x.time).length < 4) ∧
      u.editionA = t.editionA ∧ u.editionB = t.editionB ∧ u.live = t.live ∧ u.now = t.now ∧ u.suspect = t.suspect

/-- LOAD_TIDE: the two argument checks (R70); the first event and check that fail (R71); else the spare edition is replaced whole
and nothing else of the tide unit changes (R72). -/
def Obligations.LoadTideChecksAndReplacesSpare : Prop :=
  ∀ (s : State) (e : Entry) (rest : List Entry), AtHead s e rest 0x08 →
    let offset := argNum s e 3
    let count := argNum s e 4
    let fits := 1 ≤ count ∧ count ≤ 64 ∧ 0x400 ≤ offset ∧ offset + 4 * count ≤ 16384
    let loaded := (List.range count).map fun i => eventOf (payloadEvent s offset i)
    ((count = 0 ∨ 64 < count) → Ends .loadTide s e .badArgument [65535, 1] (takenState s e rest)) ∧
      (1 ≤ count → count ≤ 64 → (offset < 0x400 ∨ 16384 < offset + 4 * count) →
        Ends .loadTide s e .badArgument [65535, 2] (takenState s e rest)) ∧
      (∀ i n, fits → i < count → (∀ j, j < i → payloadCheck s offset j = none) → payloadCheck s offset i = some n →
        Ends .loadTide s e .badArgument [word i, word n] (takenState s e rest)) ∧
      (fits → (∀ i, i < count → payloadCheck s offset i = none) →
        (s.tide.live = .a →
          Ends .loadTide s e .ok [word count, 1, word s.tide.editionB.length]
            { takenState s e rest with tide := { s.tide with editionB := loaded } }) ∧
          (s.tide.live = .b →
            Ends .loadTide s e .ok [word count, 0, word s.tide.editionA.length]
              { takenState s e rest with tide := { s.tide with editionA := loaded } }))

/-- SWAP_TIDE: refused with an empty spare edition; else the live select flips, the prediction is recomputed with the copies of
now and the mark (R73), TIDE is set where the status becomes NONE or the short mark becomes set (R79), and the edition-change
event goes to the alarm unit (R74). While the edition-change event of an earlier swap is on its way no take changes the live
edition: an accepted second swap comes after it (R74, log 28). The tide unit's events load its copies of now and the mark as R69
gives and recompute (R80, R81, R82), TIDE by the changes (R79). -/
def Obligations.SwapAndTideEventsRecompute : Prop :=
  (∀ (s : State) (e : Entry) (rest : List Entry), AtHead s e rest 0x09 →
    let live : Edition := if s.tide.live = .a then .b else .a
    let spare := if s.tide.live = .a then s.tide.editionB else s.tide.editionA
    let new := { s.tide with live := live }.recomputed
    let t : State :=
      { takenState s e rest with
        tide := new, wires := { s.wires with editionChanges := [live] } }
    let answer := [word live.code, word spare.length, word (bit new.valid)]
    (spare = [] → Refused .swapTide s e rest .wrongState) ∧
      (spare ≠ [] → s.wires.editionChanges ≠ [] → exec .swapTide s = .next s) ∧
      (spare ≠ [] → s.wires.editionChanges = [] →
        ((s.tide.valid = true ∧ new.valid = false) ∨ (s.tide.short = false ∧ new.short = true)) →
        Ends .swapTide s e .ok answer (withFlag t .tide)) ∧
      (spare ≠ [] → s.wires.editionChanges = [] →
        ¬((s.tide.valid = true ∧ new.valid = false) ∨ (s.tide.short = false ∧ new.short = true)) →
        Ends .swapTide s e .ok answer t)) ∧
    (∀ s : State, s.phase = .running →
        let after (old : Tide) (rest : List TimeEvent) (o : Host.Outcome State Fault Refusal) : Prop :=
          let new := old.recomputed
          let t : State := { s with tide := new, wires := { s.wires with toTide := rest } }
          (((s.tide.valid = true ∧ new.valid = false) ∨ (s.tide.short = false ∧ new.short = true)) →
            o = .next (withFlag t .tide)) ∧
            (¬((s.tide.valid = true ∧ new.valid = false) ∨ (s.tide.short = false ∧ new.short = true)) → o = .next t)
        (∀ m rest, s.wires.toTide = .minute m :: rest →
          after { s.tide with now := m.count, suspect := m.suspect } rest (exec .minuteEventTide s)) ∧
          (∀ old new mark rest, s.wires.toTide = .timeSet old new mark :: rest →
            after { s.tide with now := new, suspect := mark } rest (exec .timeSetEventTide s)) ∧
          ∀ mark rest, s.wires.toTide = .suspectChange mark :: rest →
            after { s.tide with suspect := mark } rest (exec .suspectChangeEventTide s))

/-! ## Tide alarms -/

/-- SET_ALARM on alarm `i`: the checks of R106, RAISED refused last; accepted, the record is replaced whole in QUIET, unused
fields at 0, a TIDE_LEAD alarm armed if enabled (R107), the state and raise instant before the take answered, and the
action-change event sent if the floor or the hold state has changed (R105). -/
def Obligations.SetAlarmReplacesRecord : Prop :=
  ∀ (s : State) (e : Entry) (rest : List Entry) (i : Fin 16) (k : AlarmKind),
    AtHead s e rest 0x0A → argNum s e 3 = i.1 →
    let old := sel s.alarm.records i
    let actions := argWord s e 9
    let common := argNum s e 5 ≤ 1 ∧ argNum s e 9 ≤ 7
    let measuredOk := argNum s e 7 ≤ 1000 ∧ 1 ≤ argNum s e 8 ∧ argNum s e 8 ≤ 255 ∧
      (actions.getLsbD 1 = true → argNum s e 10 ≤ 6)
    let leadOk := argNum s e 9 ≤ 1 ∧ 1 ≤ argNum s e 11 ∧ argNum s e 11 ≤ 720 ∧ 1 ≤ argNum s e 12 ∧ argNum s e 12 ≤ 3
    let clockOk := argNum s e 9 ≤ 1 ∧ argNum s e 11 ≤ 23 ∧ argNum s e 12 ≤ 59 ∧ argNum s e 13 ≤ 1 ∧ 1 ≤ argNum s e 14 ∧
      argNum s e 14 ≤ (if argNum s e 13 = 0 then 127 else 31)
    let ok := common ∧ (k.measured = true → measuredOk) ∧ (k = .tideLead → leadOk) ∧ (k = .clock → clockOk)
    let measured := k.measured = true
    let weekly := k = .clock ∧ argNum s e 13 = 0
    let monthly := k = .clock ∧ argNum s e 13 = 1
    let record : Alarm :=
      { kind := k, enabled := argNum s e 5 == 1
        threshold := if measured then argInt s e 6 else 0
        hysteresis := if measured then argNum s e 7 else 0
        persistence := if measured then argNum s e 8 else 1
        actions :=
          { washAll := actions.getLsbD 0, derate := actions.getLsbD 1, holdRotation := actions.getLsbD 2 }
        derateValue := if actions.getLsbD 1 = true then argNum s e 10 else 0
        lead := if k = .tideLead then argNum s e 11 else 0
        which :=
          if k = .tideLead then
            (if argNum s e 12 = 1 then .high else if argNum s e 12 = 2 then .low else .both)
          else .unused
        hour := if k = .clock then argNum s e 11 else 0
        minute := if k = .clock then argNum s e 12 else 0
        mode := if monthly then .date else .weekdays
        weekdays := if weekly then (argWord s e 14).setWidth 7 else 0
        day := if monthly then argNum s e 14 else 0
        state := .quiet, count := 0, raised := none, inputLost := false, armed := none }
    let new :=
      if k = .tideLead ∧ argNum s e 5 = 1 then record.arm s.alarm.now s.alarm.suspect s.tide.liveEdition else record
    let unit := { s.alarm with records := upd s.alarm.records i new }
    (7 < argNum s e 4 → Refused .setAlarm s e rest .badArgument) ∧
      (argNum s e 4 = k.code →
        (¬ok → Refused .setAlarm s e rest .badArgument) ∧
          (ok → old.state = .raised → Refused .setAlarm s e rest .wrongState) ∧
          (ok → old.state ≠ .raised →
            Ends .setAlarm s e .ok (word old.state.code :: instantWords old.raised)
              { takenState s e rest with
                alarm := unit
                wires := { s.wires with
                  actionChanges := s.wires.actionChanges ++
                    if unit.floor = s.alarm.floor ∧ unit.holdState = s.alarm.holdState then []
                    else [(unit.floor, unit.holdState)] } }))

/-- ACK_ALARM: each masked RAISED alarm goes to STANDING and each masked CLEARED_UNACK alarm to QUIET, nothing else of any alarm
changes, and the floor and hold state stand; the two masks are answered, with no event sent and no flag but ORDER_DONE set. -/
def Obligations.AckAlarmMovesMaskedAlarms : Prop :=
  ∀ (s : State) (e : Entry) (rest : List Entry), AtHead s e rest 0x0B →
    let masked (i : Fin 16) : Prop := (argWord s e 3).getLsbD i.1 = true
    let before (i : Fin 16) := sel s.alarm.records i
    ∃ (changed stood : Word) (u : AlarmUnit),
      Ends .ackAlarm s e .ok [changed, stood] { takenState s e rest with alarm := u } ∧ u.now = s.alarm.now ∧
        u.suspect = s.alarm.suspect ∧ u.floor = s.alarm.floor ∧ u.holdState = s.alarm.holdState ∧
        ∀ i,
          (masked i → (before i).state = .raised → sel u.records i = { before i with state := .standing }) ∧
            (masked i → (before i).state = .clearedUnack → sel u.records i = { before i with state := .quiet }) ∧
            (¬(masked i ∧ ((before i).state = .raised ∨ (before i).state = .clearedUnack)) →
              sel u.records i = before i) ∧
            (changed.getLsbD i.1 = true ↔
              masked i ∧ ((before i).state = .raised ∨ (before i).state = .clearedUnack)) ∧
            (stood.getLsbD i.1 = true ↔ masked i ∧ (before i).state = .raised)

/-- The evaluation of a measured alarm by its state (R87, R89, R90, R91, R93), and the floor and hold state that the alarms give
(R102, R103). -/
def Obligations.MeasuredEvaluationByState : Prop :=
  (∀ (now : Nat) (v : Int) (a : Alarm), a.kind.measured = true →
    let high := a.kind = .levelHigh ∨ a.kind = .surgeHigh ∨ a.kind = .riseRate
    let raise := (high → a.threshold ≤ v) ∧ (¬high → v ≤ a.threshold)
    let clear := (high → v < a.threshold - a.hysteresis) ∧ (¬high → a.threshold + a.hysteresis < v)
    let b := { a with inputLost := false }
    let raised : AlarmStep := { record := { b with state := .raised, count := 0, raised := some now }, fired := true }
    let becomes (x : Alarm) := a.measure now (some v) = { record := x, fired := false }
    (a.state = .quiet → raise → a.persistence = 1 → a.measure now (some v) = raised) ∧
      (a.state = .quiet → raise → a.persistence ≠ 1 → becomes { b with state := .pending, count := 1 }) ∧
      (a.state = .quiet → ¬raise → becomes { b with count := 0 }) ∧
      (a.state = .pending → raise → a.count + 1 = a.persistence → a.measure now (some v) = raised) ∧
      (a.state = .pending → raise → a.count + 1 ≠ a.persistence → becomes { b with count := a.count + 1 }) ∧
      (a.state = .pending → ¬raise → becomes { b with state := .quiet, count := 0 }) ∧
      (a.state = .raised → clear → becomes { b with state := .clearedUnack }) ∧
      (a.state = .raised → ¬clear → becomes b) ∧
      (a.state = .standing → clear → becomes { b with state := .quiet }) ∧
      (a.state = .standing → ¬clear → becomes b) ∧
      (a.state = .clearedUnack → raise → a.measure now (some v) = raised) ∧
      (a.state = .clearedUnack → ¬raise → becomes b) ∧
      (a.state = .pending →
        a.measure now none = { record := { a with inputLost := true, state := .quiet, count := 0 }, fired := false }) ∧
      (a.state ≠ .pending → a.measure now none = { record := { a with inputLost := true }, fired := false })) ∧
    ∀ u : AlarmUnit,
      let active (i : Fin 16) : Prop :=
        (sel u.records i).enabled = true ∧ ((sel u.records i).state = .raised ∨ (sel u.records i).state = .standing)
      let derates (i : Fin 16) : Prop := active i ∧ (sel u.records i).actions.derate = true
      (u.floor = none ↔ ∀ i, ¬derates i) ∧
        (∀ f, u.floor = some f ↔
          (∃ i, derates i ∧ (sel u.records i).derateValue = f) ∧ ∀ i, derates i → f ≤ (sel u.records i).derateValue) ∧
        (u.holdState = true ↔ ∃ i, active i ∧ (sel u.records i).actions.holdRotation = true)

/-- Every event of the alarm unit handles each alarm by its own record, then sends what R86, R104 and R105 give: sea and rate
reports (R87, R88), minute events (R98, R101), time-set, suspect-change and edition-change events (R99, R100, R74); and what
arming sets (R97). -/
def Obligations.AlarmEventsHandleEveryAlarm : Prop :=
  (∀ s : State, s.phase = .running →
    let live := s.tide.liveEdition
    let still (a : Alarm) : AlarmStep := { record := a, fired := false }
    let lead (a : Alarm) : Bool := a.enabled && a.kind == .tideLead
    let inactive (a : Alarm) : Alarm := { a with armed := none, inputLost := true }
    (∀ v q rest, s.wires.seaReports = (v, q) :: rest →
      let level := if q = .lost then none else some v
      let surge := if q = .lost ∨ s.tide.valid = false then none else some (v - s.tide.level)
      exec .seaReport s =
        .next (alarmsHandled (withWires s { s.wires with seaReports := rest }) s.alarm fun a =>
          if a.enabled && (a.kind == .levelHigh || a.kind == .levelLow) then a.measure s.alarm.now level
          else if a.enabled && (a.kind == .surgeHigh || a.kind == .surgeLow) then a.measure s.alarm.now surge
          else still a)) ∧
      (∀ v valid rest, s.wires.rateReports = (v, valid) :: rest →
        exec .rateReport s =
          .next (alarmsHandled (withWires s { s.wires with rateReports := rest }) s.alarm fun a =>
            if a.enabled && (a.kind == .riseRate || a.kind == .fallRate) then
              a.measure s.alarm.now (if valid then some v else none)
            else still a)) ∧
      (∀ m rest, s.wires.toAlarm = .minute m :: rest →
        exec .minuteEventAlarm s =
          .next (alarmsHandled (withWires s { s.wires with toAlarm := rest })
            { s.alarm with now := m.count, suspect := m.suspect } fun a =>
            if lead a then
              (if m.suspect then still (inactive a)
               else if !live.isEmpty && a.armed == some m.count then
                { record := ({ a with state := .clearedUnack, raised := some m.count }).arm m.count false live
                  fired := true }
               else still a)
            else if a.enabled && a.kind == .clock && a.hour == m.hour && a.minute == m.minute &&
                (if a.mode = .weekdays then a.weekdays.getLsbD m.weekday else a.day == m.day) then
              { record := { a with state := .clearedUnack, raised := some m.count }, fired := true }
            else still a)) ∧
      (∀ old new mark rest, s.wires.toAlarm = .timeSet old new mark :: rest →
        exec .timeSetEventAlarm s =
          .next (alarmsHandled (withWires s { s.wires with toAlarm := rest })
            { s.alarm with now := new, suspect := mark } fun a =>
            still (if lead a then a.arm new mark live else a))) ∧
      (∀ mark rest, s.wires.toAlarm = .suspectChange mark :: rest →
        exec .suspectChangeEventAlarm s =
          .next (alarmsHandled (withWires s { s.wires with toAlarm := rest }) { s.alarm with suspect := true } fun a =>
            still (if lead a then inactive a else a))) ∧
      ∀ edition rest, s.wires.editionChanges = edition :: rest →
        exec .editionChangeEvent s =
          .next (alarmsHandled (withWires s { s.wires with editionChanges := rest }) s.alarm fun a =>
            still (if lead a then a.arm s.alarm.now s.alarm.suspect live else a))) ∧
    ∀ (a : Alarm) (now : Nat) (mark : Bool) (live : List TideEvent),
      let selects (x : TideEvent) : Prop :=
        (a.which = .high ∧ x.kind = .high) ∨ (a.which = .low ∧ x.kind = .low) ∨ a.which = .both
      let trigger (t : Nat) : Prop := now < t ∧ ∃ x ∈ live, selects x ∧ x.time = t + a.lead
      let b := a.arm now mark live
      b = { a with armed := b.armed, inputLost := b.inputLost } ∧
        ((mark = true ∨ live = []) → b.armed = none ∧ b.inputLost = true) ∧
        (mark = false → live ≠ [] →
          b.inputLost = false ∧ (∀ t, b.armed = some t ↔ trigger t ∧ ∀ u, trigger u → t ≤ u) ∧
            (b.armed = none ↔ ∀ t, ¬trigger t))

/-! ## Screens and the wash queue -/

/-- SET_SCREEN, RELEASE_SCREEN and RESET_SCREEN on a fitted screen: their checks, what they store in its record, what they answer
(R134, R132, R133). Nothing else changes. -/
def Obligations.ScreenRecordOrders : Prop :=
  ∀ (s : State) (e : Entry) (rest : List Entry) (n : ScreenNo), argNum s e 3 = n.1 → s.screenFitted n = true →
    let x := s.screen n
    let after (y : Screen) := withScreen (takenState s e rest) n y s.wash
    (AtHead s e rest 0x0C →
      let ok := 1 ≤ argNum s e 4 ∧ argNum s e 4 ≤ 8 ∧ 10 ≤ argNum s e 5 ∧ argNum s e 5 ≤ 5000 ∧
        argNum s e 5 < argNum s e 6 ∧ argNum s e 6 ≤ 10000 ∧ 30 ≤ argNum s e 7 ∧ argNum s e 7 ≤ 900 ∧
        10 ≤ argNum s e 8 ∧ argNum s e 8 ≤ 300 ∧ argNum s e 9 ≤ 1
      (¬ok → Refused .setScreen s e rest .badArgument) ∧
        (ok →
          Ends .setScreen s e .ok []
            (after { x with
              configTurns := argNum s e 4, startThreshold := argNum s e 5, chokeThreshold := argNum s e 6
              turnTimeout := argNum s e 7, rundownTime := argNum s e 8, intervalRestart := argNum s e 9 == 1 }))) ∧
      (AtHead s e rest 0x0F →
        Ends .releaseScreen s e .ok [word x.service.code] (after { x with service := .inService })) ∧
      (AtHead s e rest 0x10 →
        ((x.state ≠ .stalled ∨ x.overload = true) → Refused .resetScreen s e rest .wrongState) ∧
          (x.state = .stalled → x.overload = false →
            Ends .resetScreen s e .ok []
              (after { x with
                state := .parked, turnsDone := 0, turnsWanted := x.configTurns
                causes := { interval := false, differential := false, tide := false, order := false } })))

/-- A wash request by the screen's service and state (R116), a PARKED screen joining the tail of its class (R117), one not fitted
receiving none (R113); and WASH: its checks, the wash order held with its request and turns (R129). -/
def Obligations.WashRequestsByState : Prop :=
  (∀ (s : State) (n : ScreenNo) (c : Cause) (pre post : List (ScreenNo × Cause)), s.phase = .running →
    s.wires.washRequests = pre ++ (n, c) :: post → (∀ m ∈ pre, m.1 ≠ n) →
      let x := s.screen n
      let t := withWires s { s.wires with washRequests := pre ++ post }
      let only : CauseSet := { interval := false, differential := false, tide := false, order := false }
      let becomes (y : Screen) (w : Wash) := exec (.washRequest n) s = .next (withScreen t n y w)
      ((s.screenFitted n = false ∨ x.service = .held ∨ x.state = .stalled) → exec (.washRequest n) s = .next t) ∧
        (s.screenFitted n = true → x.service = .inService →
          (x.state = .parked →
            becomes { x with state := .queued, causes := only.add c, turnsDone := 0, turnsWanted := x.configTurns }
              { s.wash with queue := joined n x.choked s.wash.queue }) ∧
            ((x.state = .queued ∨ x.state = .starting ∨ x.state = .washing) →
              becomes { x with causes := x.causes.add c } s.wash) ∧
            (x.state = .rundown → becomes { x with stored := x.stored.add c, again := true } s.wash))) ∧
    ∀ (s : State) (e : Entry) (rest : List Entry) (n : ScreenNo), AtHead s e rest 0x0D → argNum s e 3 = n.1 →
      s.screenFitted n = true →
        let x := s.screen n
        let turns := argNum s e 4
        let order : Option WashOrder := some { entry := e, turns := turns, tag := argWord s e 2 }
        let becomes (y : Screen) (w : Wash) := exec .wash s = .next (withScreen (takenState s e rest) n y w)
        ((turns < 1 ∨ 8 < turns) → Refused .wash s e rest .badArgument) ∧
          (1 ≤ turns → turns ≤ 8 →
            ((x.service = .held ∨ x.state = .stalled) → Refused .wash s e rest .wrongState) ∧
              (x.service = .inService → x.state ≠ .stalled → x.washOrder ≠ none → Refused .wash s e rest .busy) ∧
              (x.service = .inService → x.washOrder = none →
                (x.state = .parked →
                  becomes
                    { x with
                      state := .queued, turnsDone := 0, turnsWanted := max x.configTurns turns, washOrder := order
                      causes := { interval := false, differential := false, tide := false, order := true } }
                    { s.wash with queue := joined n x.choked s.wash.queue }) ∧
                  ((x.state = .queued ∨ x.state = .starting ∨ x.state = .washing) →
                    becomes
                      { x with
                        causes := { x.causes with order := true }, turnsWanted := max x.turnsWanted turns
                        washOrder := order } s.wash) ∧
                  (x.state = .rundown →
                    becomes
                      { x with stored := { x.stored with order := true }, again := true, washOrder := order } s.wash)))

/-- TURN edges, rundown expiries and stalls. An edge starts the counting, counts a turn, extends the wash or ends it counted
(R119, R120, R121); a fall, a level that stands, and an edge in any other state do nothing but leave their level; in the hold
the level alone is kept (R115, log 15); a screen not fitted is not read (R113). The extension asks whether the last report gave
dP at or above the start threshold as it then stood (R120, R134, log 27). A rundown ends in PARKED or QUEUED at the expiry of
its clock, due with no second left (R122, log 7). A turn watch's expiry, due likewise, so not after an edge that restarted the
watch (R119), in STARTING or WASHING and an overload in STARTING, WASHING or RUNDOWN stall the screen: its slot is released, its
wash order completes FAILED, SCREEN is set (R123, R124); else no stall. -/
def Obligations.TurnsRundownAndStalls : Prop :=
  (∀ (s : State) (n : ScreenNo) (level : Bool),
    let x := s.screen n
    let b := { x with turn := level }
    let counted := { b with turnsDone := x.turnsDone + 1, turnWatch := some x.turnTimeout }
    let runsOn :=
      x.causes.differential = true ∧ x.dpReached = true ∧ x.turnsWanted < 8
    let edge (y : Screen) := exec (.turnEdge n level) s = .next (withScreen s n y s.wash)
    ((s.screenFitted n = false ∨ s.phase = .unpowered ∨ s.phase = .coldStart) →
      exec (.turnEdge n level) s = .next s) ∧
      (s.screenFitted n = true →
        (s.phase = .held → edge b) ∧
          (s.phase = .running → (level = false ∨ x.turn = true) → edge b) ∧
          (s.phase = .running → level = true → x.turn = false →
            (x.state = .parked ∨ x.state = .queued ∨ x.state = .rundown ∨ x.state = .stalled → edge b) ∧
              (x.state = .starting → edge { b with state := .washing, turnWatch := some x.turnTimeout }) ∧
              (x.state = .washing → x.turnsDone + 1 ≠ x.turnsWanted → edge counted) ∧
              (x.state = .washing → x.turnsDone + 1 = x.turnsWanted → runsOn →
                edge { counted with turnsWanted := x.turnsWanted + 1 }) ∧
              (x.state = .washing → x.turnsDone + 1 = x.turnsWanted → ¬runsOn →
                let t := withScreen s n
                  { rundownScreen counted with
                    washCount := min (x.washCount + 1) 65535, lastWashEnd := some s.time.clock.minuteCount
                    washOrder := none }
                  { s.wash with slots := s.wash.slots - 1 }
                let restarts := if x.intervalRestart then s.wires.intervalRestarts ++ [n] else s.wires.intervalRestarts
                exec (.turnEdge n level) s =
                  .next (washOrderEnded counted .ok (withWires t { s.wires with intervalRestarts := restarts }))))) ∧
      (s.phase = .running →
        let y := { x with
          fast := false, rundownClock := none, again := false
          stored := { interval := false, differential := false, tide := false, order := false } }
        (¬(x.state = .rundown ∧ x.rundownClock = some 0) → exec (.rundownExpiry n) s = .next s) ∧
          (x.state = .rundown → x.rundownClock = some 0 → x.again = false →
            exec (.rundownExpiry n) s =
              .next (withScreen s n
                { y with
                  state := .parked
                  causes := { interval := false, differential := false, tide := false, order := false } } s.wash)) ∧
          (x.state = .rundown → x.rundownClock = some 0 → x.again = true →
            let orderTurns := (x.washOrder.map fun o => o.turns).getD 0
            exec (.rundownExpiry n) s =
              .next (withScreen s n
                { y with
                  state := .queued, causes := x.stored, turnsDone := 0, turnsWanted := max x.configTurns orderTurns }
                { s.wash with queue := joined n x.choked s.wash.queue })))) ∧
    (∀ (s : State) (n : ScreenNo) (level : Bool),
        let x := s.screen n
        let b := { x with overload := level }
        let holds := x.state = .starting ∨ x.state = .washing
        let slots := if x.state = .starting ∨ x.state = .washing then s.wash.slots - 1 else s.wash.slots
        let stall (y : Screen) : State :=
          withFlag (washOrderEnded x .failed (withScreen s n (stalledScreen y) { s.wash with slots := slots })) .screen
        (s.phase = .running →
          (holds → x.turnWatch = some 0 → exec (.turnWatchExpiry n) s = .next (stall x)) ∧
            (¬(holds ∧ x.turnWatch = some 0) → exec (.turnWatchExpiry n) s = .next s)) ∧
          ((s.screenFitted n = false ∨ s.phase = .unpowered ∨ s.phase = .coldStart) →
            exec (.overloadEvent n level) s = .next s) ∧
          (s.screenFitted n = true →
            (s.phase = .held → exec (.overloadEvent n level) s = .next (withScreen s n b s.wash)) ∧
              (s.phase = .running →
                (level = true → x.overload = false → (holds ∨ x.state = .rundown) →
                  exec (.overloadEvent n level) s = .next (stall b)) ∧
                  (¬(level = true ∧ x.overload = false ∧ (holds ∨ x.state = .rundown)) →
                    exec (.overloadEvent n level) s = .next (withScreen s n b s.wash)))))

/-- HOLD_SCREEN by the screen's state (R131), with its choke-change event (R128), and a cancel request by the state of the
screen that holds the order (R130), one for an order not held being discarded (R8). The answers carry turns done and the cause
set as they stand before the record is emptied (log 19). The choke state is present exactly when a fitted screen in service
carries the choked mark (`ChokeStateIsMark`, R128). -/
def Obligations.HoldAndCancelEndTheWash : Prop :=
  ChokeStateIsMark ∧
  (∀ (s : State) (e : Entry) (rest : List Entry) (n : ScreenNo), AtHead s e rest 0x0E → argNum s e 3 = n.1 →
    s.screenFitted n = true →
      let x := s.screen n
      let held (y : Screen) : Screen :=
        { y with
          service := .held, choked := false, again := false, washOrder := none
          stored := { interval := false, differential := false, tide := false, order := false } }
      let ends (y : Screen) (w : Wash) :=
        Ends .holdScreen s e .ok [word x.state.code]
          (chokeSent s.chokeState (washOrderEnded x .overtaken (withScreen (takenState s e rest) n (held y) w)))
      (x.state = .queued → ends (parkedScreen x) { s.wash with queue := without n s.wash.queue }) ∧
        ((x.state = .starting ∨ x.state = .washing) →
          ends (rundownScreen x) { s.wash with slots := s.wash.slots - 1 }) ∧
        ((x.state = .parked ∨ x.state = .rundown ∨ x.state = .stalled) → ends x s.wash)) ∧
    ∀ (s : State) (n : ScreenNo) (e : Entry) (pre post : List (ScreenNo × Entry)), s.phase = .running →
      s.wires.washCancels = pre ++ (n, e) :: post → (∀ m ∈ pre, m.1 ≠ n) →
        let x := s.screen n
        let t := withWires s { s.wires with washCancels := pre ++ post }
        let ends (y : Screen) (w : Wash) :=
          exec (.washCancel n) s =
            .next (washOrderEnded x .cancelled (withScreen t n { y with washOrder := none } w))
        ((∀ o, x.washOrder = some o → o.entry ≠ e) → exec (.washCancel n) s = .next t) ∧
          ∀ o, x.washOrder = some o → o.entry = e →
            (x.state = .queued → ends (parkedScreen x) { s.wash with queue := without n s.wash.queue }) ∧
              ((x.state = .starting ∨ x.state = .washing) →
                ends (rundownScreen x) { s.wash with slots := s.wash.slots - 1 }) ∧
              (x.state = .rundown →
                ends
                  { x with
                    again := false
                    stored := { interval := false, differential := false, tide := false, order := false } } s.wash)

/-- A differential report handles its screens in order, each by R126 and R127, then sends the choke state if the event has changed
it; that state is present exactly when a fitted screen in service carries the choked mark (`ChokeStateIsMark`, R128). -/
def Obligations.DifferentialReportMarksAndAsks : Prop :=
  ChokeStateIsMark ∧
  ∀ (s : State) (report : List (ScreenNo × Differential)) (rest : List (List (ScreenNo × Differential))),
    s.phase = .running → s.wires.diffReports = report :: rest →
      exec .differentialReport s =
        .next (chokeSent s.chokeState (report.foldl (fun (t : State) m => differentialHandled t m.1 m.2)
          (withWires s { s.wires with diffReports := rest })))

/-! ## Wash water -/

/-- SET_WASH: the four checks in order, a refusal at the fourth answering the slots held; accepted, the three settings are stored
within the take and those before it answered with the slots held. Nothing else of the wash unit changes, no wash being ended. -/
def Obligations.SetWashStoresSettings : Prop :=
  ∀ (s : State) (e : Entry) (rest : List Entry), AtHead s e rest 0x11 →
    let c := argNum s e 3
    let p := argNum s e 4
    let tolerance := argNum s e 5
    let inRange := 1 ≤ c ∧ c ≤ 3 ∧ p ≤ 2000 ∧ 1 ≤ tolerance ∧ tolerance ≤ 60
    (¬inRange → Refused .setWash s e rest .badArgument) ∧
      (inRange → c < s.wash.slots →
        Ends .setWash s e .wrongState [0, 0, 0, word s.wash.slots] (takenState s e rest)) ∧
      (inRange → s.wash.slots ≤ c →
        Ends .setWash s e .ok
          [word s.wash.capacity, word s.wash.minPressure, word s.wash.tolerance, word s.wash.slots]
          { takenState s e rest with
            wash := { s.wash with capacity := c, minPressure := p, tolerance := tolerance } })

/-- A grant tests its condition and serves the head, which stalls within it if its OVERLOAD is active (R143, R118); an H report
makes the pressure test, and the suspension at the end of the tolerance takes back every slot (R138, R139, R142, R145, R125); a
running-pump report is stored (R140). -/
def Obligations.GrantPressureAndSuspension : Prop :=
  ∀ s : State, s.phase = .running →
    let w := s.wash
    let condition := w.slots < w.capacity ∧ w.pressurised = true ∧ 1 ≤ w.running
    (¬(condition ∧ w.queue ≠ []) → exec .grant s = .next s) ∧
      (∀ n c rest, condition → w.queue = (n, c) :: rest →
        let x := s.screen n
        (x.overload = false →
          exec .grant s =
            .next (withScreen s n { x with state := .starting, fast := x.choked, turnWatch := some x.turnTimeout }
              { w with queue := rest, slots := w.slots + 1 })) ∧
          (x.overload = true →
            exec .grant s =
              .next (withFlag (washOrderEnded x .failed (withScreen s n (stalledScreen x) { w with queue := rest }))
                .screen))) ∧
      (∀ h rest, s.wires.hReports = h :: rest →
        let t := withWires s { s.wires with hReports := rest }
        let passes := h.quality = .good ∧ (w.minPressure : Int) ≤ h.value
        let count := min (w.lossCount + 1) 60
        let suspended (n : ScreenNo) : Bool := (s.screen n).state == .starting || (s.screen n).state == .washing
        let back (choked : Bool) (c : WashClass) :=
          (indices fun n => suspended n && (s.screen n).choked == choked).map fun n => (n, c)
        (passes →
          exec .hReport s = .next { t with wash := { w with lastH := h, lossCount := 0, pressurised := true } }) ∧
          (¬passes → (w.pressurised = false ∨ count < w.tolerance) →
            exec .hReport s = .next { t with wash := { w with lastH := h, lossCount := count } }) ∧
          (¬passes → w.pressurised = true → w.tolerance ≤ count →
            exec .hReport s =
              .next { t with
                screens := tab fun n =>
                  if suspended n then { s.screen n with state := .queued, fast := false, turnWatch := none }
                  else s.screen n
                wash := { w with
                  lastH := h, lossCount := count, pressurised := false, slots := 0
                  queue := back true .urgent ++ (w.queue.filter fun m => m.2 == .urgent) ++
                    (back false .routine ++ w.queue.filter fun m => m.2 == .routine) } })) ∧
      ∀ k rest, s.wires.runningReports = k :: rest →
        exec .runningPumpReport s =
          .next { withWires s { s.wires with runningReports := rest } with wash := { w with running := k } }

/-! ## Pumps -/

/-- HOLD_PUMP, RELEASE_PUMP, RESET_PUMP and SET_PUMP on a fitted pump: their checks, what becomes of its record, what they
answer (R165, R166, R167, R168, R169), with availability and the reports of R154 and R155; a running-pump report carries the
number of fitted pumps in RUNNING (`RunningCountIsNumber`, R140). -/
def Obligations.PumpRecordOrders : Prop :=
  RunningCountIsNumber ∧
  ∀ (s : State) (e : Entry) (rest : List Entry) (p : PumpNo), argNum s e 3 = p.1 → s.pumpFitted p = true →
    let x := s.pump p
    let taken := takenState s e rest
    (AtHead s e rest 0x13 →
      let ends (y : Pump) := Ends .holdPump s e .ok [word x.state.code, word x.service.code] (pumpBecomes taken p y)
      ((x.state = .starting ∨ x.state = .running) → ends { stoppedFor .held x with service := .outOfService }) ∧
        (x.state ≠ .starting → x.state ≠ .running → ends { x with service := .outOfService })) ∧
      (AtHead s e rest 0x14 →
        Ends .releasePump s e .ok [word x.service.code] (pumpBecomes taken p { x with service := .inService })) ∧
      (AtHead s e rest 0x15 →
        ((x.state ≠ .tripped ∨ x.motorFault = true) → Refused .resetPump s e rest .wrongState) ∧
          (x.state = .tripped → x.motorFault = false →
            Ends .resetPump s e .ok [word (stopCauseCode x.lastStop)] (pumpBecomes taken p (restingPump x)))) ∧
      (AtHead s e rest 0x12 →
        let ok := 5 ≤ argNum s e 4 ∧ argNum s e 4 ≤ 120 ∧ 1 ≤ argNum s e 5 ∧ argNum s e 5 ≤ 30 ∧ 5 ≤ argNum s e 6 ∧
          argNum s e 6 ≤ 300 ∧ argNum s e 7 ≤ 900
        let t := pumpBecomes taken p
          { x with
            proveTime := argNum s e 4, lossTolerance := argNum s e 5, stoppingTime := argNum s e 6
            restartDelay := argNum s e 7, minSubmergence := argInt s e 8 }
        (¬ok → Refused .setPump s e rest .badArgument) ∧
          (ok → Ends .setPump s e .ok [word (t.pump p).state.code, word (bit (t.pump p).available)] t))

/-- A start request starts an available pump and refuses any other with a refused report (R156); a stop request stops a STARTING
or RUNNING pump with cause DUTY and changes no other (R160); a proof edge proves a start or stops the loss watch, and a proof
drop starts the loss watch of a RUNNING pump (R157, R158). In the hold a line's level alone is kept (R153, log 15). In a running
part RUN is on exactly for a fitted pump in STARTING or RUNNING (R151, R152). -/
def Obligations.PumpStartStopAndProof : Prop :=
  (∀ (s : State) (p : PumpNo), s.phase = .running →
    (s.runLine p = true ↔ s.pumpFitted p = true ∧ ((s.pump p).state = .starting ∨ (s.pump p).state = .running))) ∧
  (∀ (s : State) (p : PumpNo) (rest : List PumpRequest), s.phase = .running → s.pumpFitted p = true →
    let x := s.pump p
    let t := withWires s { s.wires with pumpRequests := rest }
    let ready := x.service = .inService ∧ x.state = .stopped ∧ x.delayRemaining = 0 ∧ x.motorFault = false ∧
      s.pumps.lastW.quality = .good ∧ x.minSubmergence ≤ s.pumps.lastW.value
    (s.wires.pumpRequests = .start p :: rest →
      (ready →
        exec .startRequest s =
          .next (pumpBecomes t p
            { x with
              state := .starting, startCount := min (x.startCount + 1) 65535, proveWatch := some x.proveTime
              submergenceCount := 0 })) ∧
        (¬ready →
          exec .startRequest s =
            .next (withWires t { t.wires with
              pumpReports := s.wires.pumpReports ++
                [{ pump := p, state := x.state, service := x.service, available := x.available, lastStop := x.lastStop
                   refused := true }] }))) ∧
      (s.wires.pumpRequests = .stop p :: rest → AvailabilityInv s →
        ((x.state = .starting ∨ x.state = .running) →
          exec .stopRequest s = .next (pumpBecomes t p (stoppedFor .duty x))) ∧
          (x.state ≠ .starting → x.state ≠ .running → exec .stopRequest s = .next t))) ∧
    ∀ (s : State) (p : PumpNo),
      let x := s.pump p
      let up := { x with proof := true }
      let down := { x with proof := false }
      let record (y : Pump) : State := { s with pumps := { s.pumps with records := upd s.pumps.records p y } }
      ((s.pumpFitted p = false ∨ s.phase = .unpowered ∨ s.phase = .coldStart) →
        exec (.proofEdge p) s = .next s ∧ exec (.proofDrop p) s = .next s) ∧
        (x.proof = true → exec (.proofEdge p) s = .next s) ∧ (x.proof = false → exec (.proofDrop p) s = .next s) ∧
        (s.pumpFitted p = true → s.phase = .held →
          (x.proof = false → exec (.proofEdge p) s = .next (record up)) ∧
            (x.proof = true → exec (.proofDrop p) s = .next (record down))) ∧
        (s.pumpFitted p = true → s.phase = .running →
          (x.proof = false →
            (x.state = .starting →
              exec (.proofEdge p) s =
                .next (pumpBecomes s p { up with state := .running, proveWatch := none, lossWatch := none })) ∧
              (x.state = .running → exec (.proofEdge p) s = .next (record { up with lossWatch := none })) ∧
              (x.state ≠ .starting → x.state ≠ .running → exec (.proofEdge p) s = .next (record up))) ∧
            (x.proof = true →
              (x.state = .running →
                exec (.proofDrop p) s = .next (record { down with lossWatch := some x.lossTolerance })) ∧
                (x.state ≠ .running → exec (.proofDrop p) s = .next (record down))))

/-- The trips (R157, R158, R162, R163) and the way back to rest (R161): a watch that runs out, a motor fault by the pump's
state, its clearing (R153), the stopping clock and the restart delay that run out. An expiry is due when its watch has no second
left (log 7), the delay's end when the second that takes the remaining from 1 has passed (log 8). A line that already stands at
the level does nothing, and in the hold, and where a line is not read, the level alone or nothing changes (log 15). -/
def Obligations.PumpTripsAndRest : Prop :=
  ∀ (s : State) (p : PumpNo),
    let x := s.pump p
    let trip (cause : StopCause) (y : Pump) := withFlag (pumpBecomes s p (trippedFor cause y)) .pump
    let faulty := { x with motorFault := true }
    let healthy := { x with motorFault := false }
    let record (y : Pump) : State := { s with pumps := { s.pumps with records := upd s.pumps.records p y } }
    (s.phase = .running →
      (x.state = .starting → x.proveWatch = some 0 → exec (.proveWatchExpiry p) s = .next (trip .proofFail x)) ∧
        (¬(x.state = .starting ∧ x.proveWatch = some 0) → exec (.proveWatchExpiry p) s = .next s) ∧
        (x.state = .running → x.lossWatch = some 0 → exec (.lossWatchExpiry p) s = .next (trip .proofLost x)) ∧
        (¬(x.state = .running ∧ x.lossWatch = some 0) → exec (.lossWatchExpiry p) s = .next s) ∧
        (x.state = .stopping → x.stoppingClock = some 0 →
          exec (.stoppingClockExpiry p) s = .next (pumpBecomes s p (restingPump x))) ∧
        (¬(x.state = .stopping ∧ x.stoppingClock = some 0) → exec (.stoppingClockExpiry p) s = .next s)) ∧
      ((s.pumpFitted p = false ∨ s.phase = .unpowered ∨ s.phase = .coldStart) →
        exec (.motorFaultEvent p) s = .next s ∧ exec (.motorFaultClear p) s = .next s ∧
          exec (.restartDelayEnd p) s = .next s) ∧
      (x.motorFault = true → exec (.motorFaultEvent p) s = .next s) ∧
      (x.motorFault = false → exec (.motorFaultClear p) s = .next s) ∧
      (¬(x.state = .stopped ∧ x.delayRemaining = 1 ∧ x.delayDue = true) → exec (.restartDelayEnd p) s = .next s) ∧
      (s.pumpFitted p = true → s.phase = .held →
        (x.motorFault = false → exec (.motorFaultEvent p) s = .next (record faulty)) ∧
          (x.motorFault = true → exec (.motorFaultClear p) s = .next (record healthy)) ∧
          (x.state = .stopped → x.delayRemaining = 1 → x.delayDue = true →
            exec (.restartDelayEnd p) s = .next (record { x with delayRemaining := 0, delayDue := false }))) ∧
      (s.pumpFitted p = true → s.phase = .running →
        (x.motorFault = false →
          ((x.state = .starting ∨ x.state = .running ∨ x.state = .stopping) →
            exec (.motorFaultEvent p) s = .next (trip .motorTrip faulty)) ∧
            (x.state = .stopped → exec (.motorFaultEvent p) s = .next (pumpBecomes s p faulty)) ∧
            (x.state = .tripped → exec (.motorFaultEvent p) s = .next (record faulty))) ∧
          (x.motorFault = true → exec (.motorFaultClear p) s = .next (pumpBecomes s p healthy)) ∧
          (x.state = .stopped → x.delayRemaining = 1 → x.delayDue = true →
            exec (.restartDelayEnd p) s = .next (pumpBecomes s p { x with delayRemaining := 0, delayDue := false })))

/-- A W report at the pump unit: kept as the last W; each STARTING or RUNNING pump counts or clears its submergence count and is
stopped at 20, PUMP set (R164); availability re-evaluated (R154); one report for each pump changed, ascending, and the
running-pump report with the number of fitted pumps in RUNNING if that changed (R155; `RunningCountIsNumber`, R140). -/
def Obligations.WReportGuardsSubmergence : Prop :=
  RunningCountIsNumber ∧
  ∀ (s : State) (w : Measure) (rest : List Measure), s.phase = .running → s.wires.wToPump = w :: rest →
    ∃ t, exec .wReport s = .next t ∧ t = { s with pumps := t.pumps, port := t.port, wires := t.wires } ∧
      t.pumps.lastW = w ∧
      (let runs (p : PumpNo) : Prop := (s.pump p).state = .starting ∨ (s.pump p).state = .running
       let low (p : PumpNo) : Prop := w.quality = .good ∧ w.value < (s.pump p).minSubmergence
       let stops (p : PumpNo) : Prop := runs p ∧ low p ∧ 20 ≤ (s.pump p).submergenceCount + 1
       let settled (y : Pump) : Pump := { y with available := y.canStart true w }
       let changed (p : PumpNo) : Bool :=
        (t.pump p).state != (s.pump p).state || (t.pump p).service != (s.pump p).service ||
          (t.pump p).available != (s.pump p).available
       (∀ p, s.pumpFitted p = false → t.pump p = s.pump p) ∧
        (∀ p, s.pumpFitted p = true →
          (stops p → t.pump p = settled (stoppedFor .submergence (s.pump p))) ∧
            (runs p → low p → ¬stops p →
              t.pump p = settled { s.pump p with submergenceCount := (s.pump p).submergenceCount + 1 }) ∧
            (runs p → ¬low p → t.pump p = settled { s.pump p with submergenceCount := 0 }) ∧
            (¬runs p → t.pump p = settled (s.pump p))) ∧
        ((∃ p, s.pumpFitted p = true ∧ stops p) → t.port = (withFlag s .pump).port) ∧
        ((∀ p, s.pumpFitted p = true → ¬stops p) → t.port = s.port) ∧
        t.wires =
          { s.wires with
            wToPump := rest
            pumpReports := s.wires.pumpReports ++ (indices fun p => s.pumpFitted p && changed p).map fun p =>
              { pump := p, state := (t.pump p).state, service := (t.pump p).service, available := (t.pump p).available
                lastStop := (t.pump p).lastStop, refused := false }
            runningReports := s.wires.runningReports ++
              if t.runningCount = s.runningCount then [] else [t.runningCount] })

/-! ## Duty -/

/-- The duty unit's immediate orders, each settled by steps 3 to 5 of R177 (`dutyEvent`): SET_DEMAND (R192), SET_CHOKE (R193),
SET_ROSTER (R194) and LOCK_DUTY (R195), their checks in order and their answers. -/
def Obligations.DutyOrders : Prop :=
  ∀ (s : State) (e : Entry) (rest : List Entry), s.fittedPumps ≤ 6 →
    let d := s.duty
    let settled (new : Duty) : State := ({ takenState s e rest with duty := new }).dutyEvent d
    (AtHead s e rest 0x16 →
      (d.lock = true → Refused .setDemand s e rest .locked) ∧
        (d.lock = false → s.fittedPumps < argNum s e 3 → Refused .setDemand s e rest .badArgument) ∧
        (d.lock = false → argNum s e 3 ≤ s.fittedPumps →
          let t := settled { d with demand := argNum s e 3 }
          t.duty.limit = runningLimit { d with demand := argNum s e 3 } ∧
            Ends .setDemand s e .ok [word d.demand, word t.duty.limit] t)) ∧
      (AtHead s e rest 0x1A →
        (d.lock = true → Refused .setChoke s e rest .locked) ∧
          (d.lock = false → (argNum s e 3 = 0 ∨ s.fittedPumps < argNum s e 3) →
            Refused .setChoke s e rest .badArgument) ∧
          (d.lock = false → 1 ≤ argNum s e 3 → argNum s e 3 ≤ s.fittedPumps →
            let t := settled { d with chokeLimit := argNum s e 3 }
            t.duty.limit = runningLimit { d with chokeLimit := argNum s e 3 } ∧
              Ends .setChoke s e .ok [word d.chokeLimit, word t.duty.limit] t)) ∧
      (AtHead s e rest 0x17 →
        let read (i : Nat) := argNum s e (3 + i)
        let all (f : Nat → Prop) := ∀ i, i < s.fittedPumps → f (read i)
        let distinct := ∀ i j, i < j → j < s.fittedPumps → read i ≠ read j
        (d.lock = true → Refused .setRoster s e rest .locked) ∧
          (d.lock = false → d.move ≠ .none → Refused .setRoster s e rest .busy) ∧
          (d.lock = false → d.move = .none →
            (¬all (fun k => k ≤ 5) → Refused .setRoster s e rest .badArgument) ∧
              (all (fun k => k ≤ 5) → ¬all (fun k => k < s.fittedPumps) → Refused .setRoster s e rest .notFitted) ∧
              (all (fun k => k < s.fittedPumps) → ¬distinct → Refused .setRoster s e rest .badArgument) ∧
              (∀ r : List PumpNo, r.map (fun p => p.1) = (List.range s.fittedPumps).map read →
                all (fun k => k < s.fittedPumps) → distinct →
                  Ends .setRoster s e .ok (d.roster.map fun p => word p.1) (settled { d with roster := r })))) ∧
      (AtHead s e rest 0x19 →
        Ends .lockDuty s e .ok [word (bit d.lock)] { takenState s e rest with duty := { d with lock := true } })

/-- CHANGE: its checks in order and its refusals within the take; accepted, the roster saved and its places exchanged, the
incoming's start request sent, the entry held (R189), the reconcile of the take doing nothing and a shortfall mark settled
(R179). A cancel of the change order sends the incoming a stop, restores the roster and completes CANCELLED, then the event is
settled (R190); a request for an order not held is discarded (R8). -/
def Obligations.ChangeOrderAndCancel : Prop :=
  (∀ (s : State) (e : Entry) (rest : List Entry), AtHead s e rest 0x18 → RosterInv s →
    (5 < argNum s e 3 ∨ 5 < argNum s e 4 → Refused .change s e rest .badArgument) ∧
      (argNum s e 3 ≤ 5 → argNum s e 4 ≤ 5 → (s.fittedPumps ≤ argNum s e 3 ∨ s.fittedPumps ≤ argNum s e 4) →
        Refused .change s e rest .notFitted) ∧
      ∀ o i : PumpNo, argNum s e 3 = o.1 → argNum s e 4 = i.1 → s.pumpFitted o = true → s.pumpFitted i = true →
        let d := s.duty
        let onTarget := ∀ p, p ∈ d.roster → (countedRunning d p = true ↔ p ∈ targetSet d)
        let possible := countedRunning d o = true ∧ countedAvailable d i = true ∧ i ∉ targetSet d ∧ onTarget
        (d.lock = true → Refused .change s e rest .locked) ∧
          (d.lock = false → d.move ≠ .none → Refused .change s e rest .busy) ∧
          (d.lock = false → d.move = .none → ¬possible → Refused .change s e rest .wrongState) ∧
          (d.lock = false → d.move = .none → possible →
            exec .change s =
              .next { takenState s e rest with
                wires := { s.wires with pumpRequests := s.wires.pumpRequests ++ [.start i] }
                duty := { d with
                  roster := d.roster.map fun p => if p = o then i else if p = i then o else p
                  savedRoster := some d.roster, move := .change i o .order, shortfall := false
                  changeOrder := some { entry := e, tag := argWord s e 2 } } })) ∧
    ∀ (s : State) (e : Entry) (rest : List Entry), s.phase = .running → s.wires.changeCancels = e :: rest →
      let t := withWires s { s.wires with changeCancels := rest }
      ((∀ c, s.duty.changeOrder = some c → c.entry ≠ e) → exec .changeCancel s = .next t) ∧
        ∀ c i o origin, s.duty.changeOrder = some c → c.entry = e → s.duty.move = .change i o origin →
          let u := stopSentTo i t
          exec .changeCancel s =
            .next ((changeOrderEnded .cancelled i o { u with duty := restoredWith .none u.duty }).dutyEvent s.duty)

/-- The other events of the duty unit: the copies of the choke state and of the derate floor and hold state (R175), a rotation
expiry by the duty unit's state (R191), each settled by steps 3 to 5 of R177, and the last W (R177). -/
def Obligations.DutyCopiesAndRotation : Prop :=
  ∀ s : State, s.phase = .running →
    let d := s.duty
    (∀ c rest, s.wires.chokeChanges = c :: rest →
      exec .chokeChangeEvent s =
        .next (({ withWires s { s.wires with chokeChanges := rest } with
          duty := { d with chokeCopy := c } }).dutyEvent d)) ∧
      (∀ floor hold rest, s.wires.actionChanges = (floor, hold) :: rest →
        exec .actionChangeEvent s =
          .next (({ withWires s { s.wires with actionChanges := rest } with
            duty := { d with floorCopy := floor, holdCopy := hold } }).dutyEvent d)) ∧
      (∀ w rest, s.wires.wToDuty = w :: rest →
        exec .wReportDuty s =
          .next { withWires s { s.wires with wToDuty := rest } with duty := { d with lastW := w } }) ∧
      ∀ k, s.wires.rotationExpiries = k + 1 →
        let t := withWires s { s.wires with rotationExpiries := k }
        ((d.lock = true ∨ d.holdCopy = true) → exec .rotationExpiry s = .next t) ∧
          (d.lock = false → d.holdCopy = false →
            (d.move ≠ .none →
              exec .rotationExpiry s = .next { t with duty := { d with rotationPending := true } }) ∧
              (d.move = .none → ∀ p r, d.roster = p :: r →
                exec .rotationExpiry s = .next (({ t with duty := { d with roster := r ++ [p] } }).dutyEvent d)))

/-- A pump-change report: its state and availability copied and the stop-sent mark cleared as R173 gives; the move rules for a
START (R183), for a CHANGE's incoming (R184, R185) and its outgoing (R186), with the roster of R187 and the change order's
completion; then the event is settled (R177). The mark that the rules read is the one before the report (log 25). -/
def Obligations.PumpReportMoveRules : Prop :=
  ∀ (s : State) (r : PumpReport) (rest : List PumpReport), s.phase = .running → s.wires.pumpReports = r :: rest →
    let mark := (sel s.duty.view r.pump).stopSent
    let clears := r.state = .stopping ∨ r.state = .tripped ∨ r.refused = true
    let view : PumpView :=
      { state := r.state, available := r.available, stopSent := if clears then false else mark }
    let heard : Duty := { s.duty with view := upd s.duty.view r.pump view }
    let t : State := { withWires s { s.wires with pumpReports := rest } with duty := heard }
    let settles (u : State) := exec .pumpChangeReport s = .next (u.dutyEvent s.duty)
    let proves := r.state = .running ∧ mark = false
    (s.duty.move = .none → settles t) ∧
      (∀ p, s.duty.move = .start p →
        (r.pump = p → (proves ∨ clears) → settles { t with duty := { heard with move := .none } }) ∧
          (¬(r.pump = p ∧ (proves ∨ clears)) → settles t)) ∧
      ∀ i o origin, s.duty.move = .change i o origin → i ≠ o →
        let failed (m : Move) (result : OrderResult) : State :=
          changeOrderEnded result i o { withFlag t .pump with duty := restoredWith m heard }
        let leaves := r.state = .tripped ∨ (r.state = .stopping ∧ mark = false)
        (r.pump = i →
          (proves →
            let u := stopSentTo o t
            settles (changeOrderEnded .ok i o { u with duty := { u.duty with move := .none, savedRoster := none } })) ∧
            (¬proves → r.state = .tripped → settles (failed .none .failed)) ∧
            (¬proves → r.state ≠ .tripped → (r.state = .stopping ∨ r.refused = true) →
              settles (failed .none .overtaken)) ∧
            (¬proves → ¬clears → settles t)) ∧
          (r.pump = o → (leaves → settles (failed (.start i) .overtaken)) ∧ (¬leaves → settles t)) ∧
          (r.pump ≠ i → r.pump ≠ o → settles t)

/-- Steps 3 to 5 of R177: L is computed (R174); reconcile runs if L, the roster, a view's state or availability or the move slot
has changed (log 20), and the shortfall mark is then settled (R179); after it the pumps counted running or being started are at
most L, and at most L + 1 with a CHANGE's incoming (R182). -/
def Obligations.DutyEventBoundsRunning : Prop :=
  ∀ (before : Duty) (s : State),
    let limited : State := { s with duty := { s.duty with limit := runningLimit s.duty } }
    let d := limited.duty
    let disturbed := d.limit ≠ before.limit ∨ d.roster ≠ before.roster ∨ d.move ≠ before.move ∨
      ∃ p, (sel d.view p).state ≠ (sel before.view p).state ∨ (sel d.view p).available ≠ (sel before.view p).available
    let t := s.dutyEvent before
    (¬disturbed → t = limited) ∧
      (disturbed →
        let u := limited.reconcile
        let enough := u.duty.limit ≤ (countedSet u.duty).length + startsOne u.duty.move
        t = { u with duty := { u.duty with shortfall := if enough then false else u.duty.shortfall } } ∧
          (RosterInv limited →
            (countedSet t.duty).length + startsOne t.duty.move ≤ t.duty.limit ∧
              (countedSet t.duty).length + (if t.duty.move = .none then 0 else 1) ≤ t.duty.limit + 1))

/-- The cases of reconcile (R177): case 1 ends the move and stops the pumps counted running last in the roster until L run (R178;
log 18 for the answer); case 2 starts the first pump counted available, or falls short (R179); case 3 begins a changeover
(R180); case 4 applies or drops the pending rotation, a new run of the cases following (R181); else nothing. -/
def Obligations.ReconcileByCases : Prop :=
  ∀ s : State, IsRoster s s.duty.roster →
    let d := s.duty
    let running := (countedSet d).length
    let case1 := d.limit < running + startsOne d.move
    let case2 := d.move = .none ∧ running < d.limit
    let case3 := d.move = .none ∧ running = d.limit ∧ ∃ p ∈ d.roster, ¬(countedRunning d p = true ↔ p ∈ targetSet d)
    let none123 := ¬case1 ∧ ¬case2 ∧ ¬case3
    let ask (p : PumpNo) : Wires := { s.wires with pumpRequests := s.wires.pumpRequests ++ [.start p] }
    (case1 →
      let ended : State :=
        match d.move with
        | .none => s
        | .start p =>
          let u := stopSentTo p s
          { u with duty := { u.duty with move := .none } }
        | .change i o _ =>
          let u := withFlag (stopSentTo i s) .pump
          changeOrderEnded .overtaken i o { u with duty := restoredWith .none u.duty }
      let stops := (countedSet ended.duty).reverse.take ((countedSet ended.duty).length - d.limit)
      s.reconcile =
        { ended with
          wires := { ended.wires with pumpRequests := ended.wires.pumpRequests ++ stops.map fun p => .stop p }
          duty := { ended.duty with
            view := tab fun p =>
              if p ∈ stops then { sel ended.duty.view p with stopSent := true } else sel ended.duty.view p } }) ∧
      (case2 →
        (∀ pre p post, d.roster = pre ++ p :: post → countedAvailable d p = true →
          (∀ q ∈ pre, countedAvailable d q = false) →
            s.reconcile = { s with wires := ask p, duty := { d with move := .start p } }) ∧
          ((∀ p ∈ d.roster, countedAvailable d p = false) →
            (d.shortfall = false →
              s.reconcile = { withFlag s .pump with duty := { d with shortfall := true } }) ∧
              (d.shortfall = true → s.reconcile = s))) ∧
      (case3 →
        ∃ i o, s.reconcile = { s with wires := ask i, duty := { d with move := .change i o .reconcile } } ∧
          countedAvailable d i = true ∧
          (∃ pre post, targetSet d = pre ++ i :: post ∧ countedRunning d i = false ∧
            ∀ q ∈ pre, countedRunning d q = true) ∧
          ∃ pre post, countedSet d = pre ++ o :: post ∧ o ∉ targetSet d ∧ ∀ q ∈ post, q ∈ targetSet d) ∧
      (none123 → ¬(d.move = .none ∧ d.rotationPending = true) → s.reconcile = s) ∧
      (none123 → d.move = .none → d.rotationPending = true →
        let dropped := { d with rotationPending := false }
        ((d.lock = true ∨ d.holdCopy = true) → s.reconcile = { s with duty := dropped }) ∧
          (d.lock = false → d.holdCopy = false → ∀ p r, d.roster = p :: r →
            s.reconcile = ({ s with duty := { dropped with roster := r ++ [p] } }).reconcile))

end Statements
end

