-- ==== Sys2Proof/Laws/Table.lean ====
section
/-!
SUPPORT. What reading, writing and rebuilding a table do, and what taking the first of a list does.
-/

namespace Sys2Proof.Machine

variable {n : Nat} {α β : Type}

/-- Reading the record that was written gives what was written. -/
@[simp] theorem sel_upd_same (v : Vector α n) (i : Fin n) (x : α) : sel (upd v i x) i = x := by
  simp [sel, upd]

/-- Reading another record gives what was there. -/
theorem sel_upd_ne (v : Vector α n) (i j : Fin n) (x : α) (h : j ≠ i) : sel (upd v i x) j = sel v j := by
  have h' : (i : Nat) ≠ j := fun e => h (Fin.ext e.symm)
  simp [sel, upd, h']

/-- Reading after a write, either case. -/
theorem sel_upd (v : Vector α n) (i j : Fin n) (x : α) : sel (upd v i x) j = if j = i then x else sel v j := by
  split
  · next h => subst h; exact sel_upd_same v j x
  · next h => exact sel_upd_ne v i j x h

/-- A rebuilt table holds what it was built of. -/
@[simp] theorem sel_tab (f : Fin n → α) (i : Fin n) : sel (tab f) i = f i := by
  simp [sel, tab]

/-- Two tables with the same records are the same table. -/
theorem table_ext (v w : Vector α n) (h : ∀ i, sel v i = sel w i) : v = w := by
  apply Vector.ext
  intro i hi
  simpa [sel] using h ⟨i, hi⟩

/-- Writing back what a record holds changes nothing. -/
@[simp] theorem upd_sel (v : Vector α n) (i : Fin n) : upd v i (sel v i) = v := by
  apply table_ext
  intro j
  rw [sel_upd]
  split
  · next h => rw [h]
  · rfl

/-- The second write to one record stands. -/
@[simp] theorem upd_upd (v : Vector α n) (i : Fin n) (x y : α) : upd (upd v i x) i y = upd v i y := by
  apply table_ext
  intro j
  simp only [sel_upd]
  split <;> rfl

/-- Membership of an index list is its predicate. -/
@[simp] theorem mem_indices (p : Fin n → Bool) (i : Fin n) : i ∈ indices p ↔ p i = true := by
  simp [indices]

/-- An index list holds no index twice. -/
theorem indices_nodup (p : Fin n → Bool) : (indices p).Nodup := (List.nodup_finRange n).filter p

/-- What `takeFirst` removes satisfies the predicate, and the list is what it was with that element put back. -/
theorem takeFirst_spec (p : α → Bool) (l : List α) (x : α) (rest : List α) (h : takeFirst p l = some (x, rest)) :
    p x = true ∧ ∃ a b, l = a ++ x :: b ∧ rest = a ++ b := by
  induction l generalizing rest with
  | nil => cases h
  | cons y ys ih =>
    rw [takeFirst] at h
    split at h
    · next hy =>
      cases h
      exact ⟨hy, [], ys, rfl, rfl⟩
    · split at h
      · cases h
      · next z zs hz =>
        cases h
        obtain ⟨hp, a, b, rfl, rfl⟩ := ih zs hz
        exact ⟨hp, y :: a, b, rfl, rfl⟩

end Sys2Proof.Machine
end

