-- ==== Sys2Proof/Laws/Alarm.lean ====
section
/-!
SUPPORT. What an event of the alarm unit does, in closed form (R86, R104, R105), and the conditions of a measured alarm (R87).
-/

namespace Sys2Proof

open Sys2Proof.Machine

/-- The requests of the alarms that fired with WASH_ALL, in number order (R104). -/
theorem sendFired_eq (l : List (Fin 16)) (g : Fin 16 → AlarmStep) (s : State) :
    s.sendFired (l.map g) =
      { s with wires := { s.wires with
          washRequests := s.wires.washRequests ++
            ((l.filter fun i => (g i).fired).filter fun i => (g i).record.actions.washAll).flatMap fun _ =>
              (indices s.screenFitted).map fun n => (n, .tide) } } := by
  induction l generalizing s with
  | nil => simp [State.sendFired]
  | cons i l ih =>
    have step : s.sendFired ((i :: l).map g) =
        (if (g i).fired && (g i).record.actions.washAll then s.sendWashAll else s).sendFired (l.map g) := rfl
    rw [step, ih]
    cases hf : (g i).fired <;> cases hw : (g i).record.actions.washAll <;>
      simp [hf, hw, State.sendWashAll, State.fittedScreenList]
    rfl

/-- An event of the alarm unit in the closed form of the statements. -/
theorem alarmEvent_eq (s : State) (unit : AlarmUnit) (f : Alarm → AlarmStep) :
    s.alarmEvent unit f = alarmsHandled s unit f := by
  unfold State.alarmEvent alarmsHandled
  simp only [sendFired_eq (List.finRange 16) (fun i => f (sel unit.records i))]
  have hany : (((List.finRange 16).map fun i => f (sel unit.records i)).any fun x => x.fired) =
      !((List.finRange 16).filter fun i => (f (sel unit.records i)).fired).isEmpty := by
    generalize List.finRange 16 = l
    induction l with
    | nil => rfl
    | cons i l ih => cases h : (f (sel unit.records i)).fired <;> simp_all
  rw [hany]
  generalize ((List.finRange 16).filter fun i => (f (sel unit.records i)).fired) = fired
  cases fired with
  | nil =>
    simp [State.setFlagIf, State.sendActionChangeFrom, State.sendActionChange]
    split <;> simp
  | cons i l =>
    simp [State.setFlagIf, State.setFlag, State.sendActionChangeFrom, State.sendActionChange]
    split <;> simp <;> rfl

/-- The raise and clear conditions of a measured kind (R87). -/
theorem conditions_of_measured (v : Int) (a : Alarm) (hk : a.kind.measured = true) :
    let high := a.kind = .levelHigh ∨ a.kind = .surgeHigh ∨ a.kind = .riseRate
    (a.raiseHolds v = true ↔ ((high → a.threshold ≤ v) ∧ (¬high → v ≤ a.threshold))) ∧
      (a.clearHolds v = true ↔
        ((high → v < a.threshold - a.hysteresis) ∧ (¬high → a.threshold + a.hysteresis < v))) := by
  rcases a with ⟨kind⟩
  cases kind <;> simp_all [Alarm.raiseHolds, Alarm.clearHolds, AlarmKind.high, AlarmKind.measured]

end Sys2Proof
end

