-- ==== Sys2Proof/Laws/Memory.lean ====
section
/-!
SUPPORT. Exchange memory: what a write leaves to be read, and that every write keeps the canonical form (log 10).
-/

namespace Sys2Proof.Machine

/-- The addresses of a canonical memory all lie above a bound that its first address lies above. -/
theorem Memory.wf_bound (b : Nat) : ∀ m : List (Nat × Word), Memory.wf m = true → (∀ c ∈ m.head?, b < c.1) → ∀ c ∈ m, b < c.1
  | [], _, _, _, h => by cases h
  | [d], _, hb, c, h => by
    simp only [List.mem_singleton] at h
    subst h
    exact hb c rfl
  | d :: e :: rest, hw, hb, c, h => by
    have hd : b < d.1 := hb d rfl
    simp only [Memory.wf, Bool.and_eq_true, decide_eq_true_eq] at hw
    rcases List.mem_cons.mp h with rfl | h
    · exact hd
    · exact Memory.wf_bound b (e :: rest) hw.2
        (fun f hf => by simp only [List.head?_cons, Option.mem_some_iff] at hf; subst hf; omega) c h

/-- An address below every listed one reads blank. -/
theorem Memory.read_below : ∀ (m : List (Nat × Word)) (a : Nat), (∀ c ∈ m, a < c.1) → Memory.read m a = Memory.blank
  | [], _, _ => rfl
  | (b, v) :: rest, a, h => by
    have hb : a < b := h (b, v) (List.mem_cons_self ..)
    rw [Memory.read, if_neg (by omega)]
    exact Memory.read_below rest a fun c hc => h c (List.mem_cons_of_mem _ hc)

/-- The tail of a canonical memory is canonical, and its addresses lie above the head's. -/
theorem Memory.wf_cons (c : Nat × Word) (m : List (Nat × Word)) (h : Memory.wf (c :: m) = true) :
    Memory.cellOk c = true ∧ Memory.wf m = true ∧ ∀ d ∈ m, c.1 < d.1 := by
  cases m with
  | nil => exact ⟨h, rfl, fun d hd => by cases hd⟩
  | cons e rest =>
    simp only [Memory.wf, Bool.and_eq_true, decide_eq_true_eq] at h
    exact ⟨h.1.1, h.2, Memory.wf_bound c.1 (e :: rest) h.2
      fun f hf => by simp only [List.head?_cons, Option.mem_some_iff] at hf; subst hf; exact h.1.2⟩

/-- A cell before a canonical memory whose addresses lie above it is canonical. -/
theorem Memory.cons_wf (c : Nat × Word) (m : List (Nat × Word)) (hc : Memory.cellOk c = true) (hm : Memory.wf m = true)
    (h : ∀ d ∈ m, c.1 < d.1) : Memory.wf (c :: m) = true := by
  cases m with
  | nil => exact hc
  | cons e rest =>
    simp only [Memory.wf, Bool.and_eq_true, decide_eq_true_eq]
    exact ⟨⟨hc, h e (List.mem_cons_self ..)⟩, hm⟩

/-- A write adds no address but its own. -/
theorem Memory.mem_write (m : List (Nat × Word)) (a : Nat) (w : Word) (c : Nat × Word) (h : c ∈ Memory.write m a w) :
    c ∈ m ∨ (c = (a, w) ∧ w ≠ Memory.blank) := by
  induction m with
  | nil =>
    rw [Memory.write] at h
    split at h
    · cases h
    · next hw => exact Or.inr ⟨List.mem_singleton.mp h, hw⟩
  | cons d rest ih =>
    obtain ⟨b, v⟩ := d
    rw [Memory.write] at h
    split at h
    · split at h
      · exact Or.inl h
      · next hw =>
        rcases List.mem_cons.mp h with rfl | h
        · exact Or.inr ⟨rfl, hw⟩
        · exact Or.inl h
    · split at h
      · split at h
        · exact Or.inl (List.mem_cons_of_mem _ h)
        · next hw =>
          rcases List.mem_cons.mp h with rfl | h
          · exact Or.inr ⟨rfl, hw⟩
          · exact Or.inl (List.mem_cons_of_mem _ h)
      · rcases List.mem_cons.mp h with rfl | h
        · exact Or.inl (List.mem_cons_self ..)
        · rcases ih h with h | h
          · exact Or.inl (List.mem_cons_of_mem _ h)
          · exact Or.inr h

/-- A write to an address that may be listed keeps the canonical form. -/
theorem Memory.write_wf (m : List (Nat × Word)) (a : Nat) (w : Word) (ha : a < 16384) (hh : isHandAddr a = false)
    (hm : Memory.wf m = true) : Memory.wf (Memory.write m a w) = true := by
  have ok : w ≠ Memory.blank → Memory.cellOk (a, w) = true := fun h => by simp [Memory.cellOk, ha, hh, h]
  induction m with
  | nil =>
    rw [Memory.write]
    split
    · rfl
    · next hw => exact ok hw
  | cons d rest ih =>
    obtain ⟨b, v⟩ := d
    obtain ⟨hd, hr, hb⟩ := Memory.wf_cons (b, v) rest hm
    rw [Memory.write]
    split
    · next hab =>
      split
      · exact hm
      · next hw =>
        refine Memory.cons_wf _ _ (ok hw) hm fun c hc => ?_
        rcases List.mem_cons.mp hc with rfl | hc
        · exact hab
        · exact Nat.lt_trans hab (hb c hc)
    · split
      · next hab =>
        split
        · exact hr
        · next hw => exact Memory.cons_wf _ _ (ok hw) hr fun c hc => hab ▸ hb c hc
      · next hlt hne =>
        refine Memory.cons_wf _ _ hd (ih hr) fun c hc => ?_
        rcases Memory.mem_write rest a w c hc with hc | ⟨rfl, _⟩
        · exact hb c hc
        · show b < a
          omega

/-- The word just written is the word read. -/
theorem Memory.read_write_same (m : List (Nat × Word)) (a : Nat) (w : Word) (hm : Memory.wf m = true) :
    Memory.read (Memory.write m a w) a = w := by
  induction m with
  | nil =>
    rw [Memory.write]
    split
    · next hw => rw [hw]; rfl
    · simp [Memory.read]
  | cons d rest ih =>
    obtain ⟨b, v⟩ := d
    obtain ⟨_, hr, hb⟩ := Memory.wf_cons (b, v) rest hm
    rw [Memory.write]
    split
    · next hab =>
      split
      · next hw =>
        rw [hw]
        refine Memory.read_below _ _ fun c hc => ?_
        rcases List.mem_cons.mp hc with rfl | hc
        · exact hab
        · exact Nat.lt_trans hab (hb c hc)
      · simp [Memory.read]
    · split
      · next hab =>
        split
        · next hw => rw [hw]; exact Memory.read_below _ _ fun c hc => hab ▸ hb c hc
        · simp [Memory.read]
      · next hne => rw [Memory.read, if_neg hne]; exact ih hr

/-- A write leaves every other address as it was. -/
theorem Memory.read_write_ne (m : List (Nat × Word)) (a c : Nat) (w : Word) (h : c ≠ a) (hm : Memory.wf m = true) :
    Memory.read (Memory.write m a w) c = Memory.read m c := by
  induction m with
  | nil =>
    rw [Memory.write]
    split
    · rfl
    · simp [Memory.read, h]
  | cons d rest ih =>
    obtain ⟨b, v⟩ := d
    obtain ⟨_, hr, _⟩ := Memory.wf_cons (b, v) rest hm
    rw [Memory.write]
    split
    · split
      · rfl
      · rw [Memory.read, if_neg h]
    · split
      · next hab =>
        split
        · rw [Memory.read, if_neg (by omega)]
        · rw [Memory.read, if_neg h, Memory.read, if_neg (by omega)]
      · rw [Memory.read, Memory.read, ih hr]

end Sys2Proof.Machine
end

