-- ==== Sys2Proof/Laws/State.lean ====
section
/-!
SUPPORT. The record updates of State: for each, what every field is after it, by rfl, so that no later proof unfolds one.
-/

namespace Sys2Proof.Machine

variable (s : State)

section setFlag
variable (f : Flag)
@[simp] theorem State.setFlag_pending : (s.setFlag f).pending = s.pending := rfl
@[simp] theorem State.setFlag_phase : (s.setFlag f).phase = s.phase := rfl
@[simp] theorem State.setFlag_resetLow : (s.setFlag f).resetLow = s.resetLow := rfl
@[simp] theorem State.setFlag_fittedScreens : (s.setFlag f).fittedScreens = s.fittedScreens := rfl
@[simp] theorem State.setFlag_fittedPumps : (s.setFlag f).fittedPumps = s.fittedPumps := rfl
@[simp] theorem State.setFlag_port : (s.setFlag f).port = { s.port with summary := s.port.summary ||| f.mask } := rfl
@[simp] theorem State.setFlag_mem : (s.setFlag f).mem = s.mem := rfl
@[simp] theorem State.setFlag_hands : (s.setFlag f).hands = s.hands := rfl
@[simp] theorem State.setFlag_intake : (s.setFlag f).intake = s.intake := rfl
@[simp] theorem State.setFlag_time : (s.setFlag f).time = s.time := rfl
@[simp] theorem State.setFlag_level : (s.setFlag f).level = s.level := rfl
@[simp] theorem State.setFlag_tide : (s.setFlag f).tide = s.tide := rfl
@[simp] theorem State.setFlag_alarm : (s.setFlag f).alarm = s.alarm := rfl
@[simp] theorem State.setFlag_screens : (s.setFlag f).screens = s.screens := rfl
@[simp] theorem State.setFlag_wash : (s.setFlag f).wash = s.wash := rfl
@[simp] theorem State.setFlag_pumps : (s.setFlag f).pumps = s.pumps := rfl
@[simp] theorem State.setFlag_duty : (s.setFlag f).duty = s.duty := rfl
@[simp] theorem State.setFlag_wires : (s.setFlag f).wires = s.wires := rfl
@[simp] theorem State.setFlag_draws : (s.setFlag f).draws = s.draws := rfl
end setFlag

section exchangeFault
variable (k : FaultKind) (i : Entry) (o : Fin 32)
@[simp] theorem State.exchangeFault_pending : (s.exchangeFault k i o).pending = s.pending := rfl
@[simp] theorem State.exchangeFault_phase : (s.exchangeFault k i o).phase = s.phase := rfl
@[simp] theorem State.exchangeFault_resetLow : (s.exchangeFault k i o).resetLow = s.resetLow := rfl
@[simp] theorem State.exchangeFault_fittedScreens : (s.exchangeFault k i o).fittedScreens = s.fittedScreens := rfl
@[simp] theorem State.exchangeFault_fittedPumps : (s.exchangeFault k i o).fittedPumps = s.fittedPumps := rfl
@[simp] theorem State.exchangeFault_port : (s.exchangeFault k i o).port = { s.port with fault := s.port.fault.record k i o, summary := s.port.summary ||| Flag.exchange.mask } := rfl
@[simp] theorem State.exchangeFault_mem : (s.exchangeFault k i o).mem = s.mem := rfl
@[simp] theorem State.exchangeFault_hands : (s.exchangeFault k i o).hands = s.hands := rfl
@[simp] theorem State.exchangeFault_intake : (s.exchangeFault k i o).intake = s.intake := rfl
@[simp] theorem State.exchangeFault_time : (s.exchangeFault k i o).time = s.time := rfl
@[simp] theorem State.exchangeFault_level : (s.exchangeFault k i o).level = s.level := rfl
@[simp] theorem State.exchangeFault_tide : (s.exchangeFault k i o).tide = s.tide := rfl
@[simp] theorem State.exchangeFault_alarm : (s.exchangeFault k i o).alarm = s.alarm := rfl
@[simp] theorem State.exchangeFault_screens : (s.exchangeFault k i o).screens = s.screens := rfl
@[simp] theorem State.exchangeFault_wash : (s.exchangeFault k i o).wash = s.wash := rfl
@[simp] theorem State.exchangeFault_pumps : (s.exchangeFault k i o).pumps = s.pumps := rfl
@[simp] theorem State.exchangeFault_duty : (s.exchangeFault k i o).duty = s.duty := rfl
@[simp] theorem State.exchangeFault_wires : (s.exchangeFault k i o).wires = s.wires := rfl
@[simp] theorem State.exchangeFault_draws : (s.exchangeFault k i o).draws = s.draws := rfl
end exchangeFault

section setHand
variable (e : Entry) (h : Hand)
@[simp] theorem State.setHand_pending : (s.setHand e h).pending = s.pending := rfl
@[simp] theorem State.setHand_phase : (s.setHand e h).phase = s.phase := rfl
@[simp] theorem State.setHand_resetLow : (s.setHand e h).resetLow = s.resetLow := rfl
@[simp] theorem State.setHand_fittedScreens : (s.setHand e h).fittedScreens = s.fittedScreens := rfl
@[simp] theorem State.setHand_fittedPumps : (s.setHand e h).fittedPumps = s.fittedPumps := rfl
@[simp] theorem State.setHand_port : (s.setHand e h).port = s.port := rfl
@[simp] theorem State.setHand_mem : (s.setHand e h).mem = s.mem := rfl
@[simp] theorem State.setHand_hands : (s.setHand e h).hands = upd s.hands e h := rfl
@[simp] theorem State.setHand_intake : (s.setHand e h).intake = s.intake := rfl
@[simp] theorem State.setHand_time : (s.setHand e h).time = s.time := rfl
@[simp] theorem State.setHand_level : (s.setHand e h).level = s.level := rfl
@[simp] theorem State.setHand_tide : (s.setHand e h).tide = s.tide := rfl
@[simp] theorem State.setHand_alarm : (s.setHand e h).alarm = s.alarm := rfl
@[simp] theorem State.setHand_screens : (s.setHand e h).screens = s.screens := rfl
@[simp] theorem State.setHand_wash : (s.setHand e h).wash = s.wash := rfl
@[simp] theorem State.setHand_pumps : (s.setHand e h).pumps = s.pumps := rfl
@[simp] theorem State.setHand_duty : (s.setHand e h).duty = s.duty := rfl
@[simp] theorem State.setHand_wires : (s.setHand e h).wires = s.wires := rfl
@[simp] theorem State.setHand_draws : (s.setHand e h).draws = s.draws := rfl
end setHand

section writeWord
variable (a : Nat) (w : Word)
@[simp] theorem State.writeWord_pending : (s.writeWord a w).pending = s.pending := rfl
@[simp] theorem State.writeWord_phase : (s.writeWord a w).phase = s.phase := rfl
@[simp] theorem State.writeWord_resetLow : (s.writeWord a w).resetLow = s.resetLow := rfl
@[simp] theorem State.writeWord_fittedScreens : (s.writeWord a w).fittedScreens = s.fittedScreens := rfl
@[simp] theorem State.writeWord_fittedPumps : (s.writeWord a w).fittedPumps = s.fittedPumps := rfl
@[simp] theorem State.writeWord_port : (s.writeWord a w).port = s.port := rfl
@[simp] theorem State.writeWord_mem : (s.writeWord a w).mem = Memory.write s.mem a w := rfl
@[simp] theorem State.writeWord_hands : (s.writeWord a w).hands = s.hands := rfl
@[simp] theorem State.writeWord_intake : (s.writeWord a w).intake = s.intake := rfl
@[simp] theorem State.writeWord_time : (s.writeWord a w).time = s.time := rfl
@[simp] theorem State.writeWord_level : (s.writeWord a w).level = s.level := rfl
@[simp] theorem State.writeWord_tide : (s.writeWord a w).tide = s.tide := rfl
@[simp] theorem State.writeWord_alarm : (s.writeWord a w).alarm = s.alarm := rfl
@[simp] theorem State.writeWord_screens : (s.writeWord a w).screens = s.screens := rfl
@[simp] theorem State.writeWord_wash : (s.writeWord a w).wash = s.wash := rfl
@[simp] theorem State.writeWord_pumps : (s.writeWord a w).pumps = s.pumps := rfl
@[simp] theorem State.writeWord_duty : (s.writeWord a w).duty = s.duty := rfl
@[simp] theorem State.writeWord_wires : (s.writeWord a w).wires = s.wires := rfl
@[simp] theorem State.writeWord_draws : (s.writeWord a w).draws = s.draws := rfl
end writeWord

section setScreen
variable (n : ScreenNo) (x : Screen)
@[simp] theorem State.setScreen_pending : (s.setScreen n x).pending = s.pending := rfl
@[simp] theorem State.setScreen_phase : (s.setScreen n x).phase = s.phase := rfl
@[simp] theorem State.setScreen_resetLow : (s.setScreen n x).resetLow = s.resetLow := rfl
@[simp] theorem State.setScreen_fittedScreens : (s.setScreen n x).fittedScreens = s.fittedScreens := rfl
@[simp] theorem State.setScreen_fittedPumps : (s.setScreen n x).fittedPumps = s.fittedPumps := rfl
@[simp] theorem State.setScreen_port : (s.setScreen n x).port = s.port := rfl
@[simp] theorem State.setScreen_mem : (s.setScreen n x).mem = s.mem := rfl
@[simp] theorem State.setScreen_hands : (s.setScreen n x).hands = s.hands := rfl
@[simp] theorem State.setScreen_intake : (s.setScreen n x).intake = s.intake := rfl
@[simp] theorem State.setScreen_time : (s.setScreen n x).time = s.time := rfl
@[simp] theorem State.setScreen_level : (s.setScreen n x).level = s.level := rfl
@[simp] theorem State.setScreen_tide : (s.setScreen n x).tide = s.tide := rfl
@[simp] theorem State.setScreen_alarm : (s.setScreen n x).alarm = s.alarm := rfl
@[simp] theorem State.setScreen_screens : (s.setScreen n x).screens = upd s.screens n x := rfl
@[simp] theorem State.setScreen_wash : (s.setScreen n x).wash = s.wash := rfl
@[simp] theorem State.setScreen_pumps : (s.setScreen n x).pumps = s.pumps := rfl
@[simp] theorem State.setScreen_duty : (s.setScreen n x).duty = s.duty := rfl
@[simp] theorem State.setScreen_wires : (s.setScreen n x).wires = s.wires := rfl
@[simp] theorem State.setScreen_draws : (s.setScreen n x).draws = s.draws := rfl
end setScreen

section setPump
variable (p : PumpNo) (x : Pump)
@[simp] theorem State.setPump_pending : (s.setPump p x).pending = s.pending := rfl
@[simp] theorem State.setPump_phase : (s.setPump p x).phase = s.phase := rfl
@[simp] theorem State.setPump_resetLow : (s.setPump p x).resetLow = s.resetLow := rfl
@[simp] theorem State.setPump_fittedScreens : (s.setPump p x).fittedScreens = s.fittedScreens := rfl
@[simp] theorem State.setPump_fittedPumps : (s.setPump p x).fittedPumps = s.fittedPumps := rfl
@[simp] theorem State.setPump_port : (s.setPump p x).port = s.port := rfl
@[simp] theorem State.setPump_mem : (s.setPump p x).mem = s.mem := rfl
@[simp] theorem State.setPump_hands : (s.setPump p x).hands = s.hands := rfl
@[simp] theorem State.setPump_intake : (s.setPump p x).intake = s.intake := rfl
@[simp] theorem State.setPump_time : (s.setPump p x).time = s.time := rfl
@[simp] theorem State.setPump_level : (s.setPump p x).level = s.level := rfl
@[simp] theorem State.setPump_tide : (s.setPump p x).tide = s.tide := rfl
@[simp] theorem State.setPump_alarm : (s.setPump p x).alarm = s.alarm := rfl
@[simp] theorem State.setPump_screens : (s.setPump p x).screens = s.screens := rfl
@[simp] theorem State.setPump_wash : (s.setPump p x).wash = s.wash := rfl
@[simp] theorem State.setPump_pumps : (s.setPump p x).pumps = { s.pumps with records := upd s.pumps.records p x } := rfl
@[simp] theorem State.setPump_duty : (s.setPump p x).duty = s.duty := rfl
@[simp] theorem State.setPump_wires : (s.setPump p x).wires = s.wires := rfl
@[simp] theorem State.setPump_draws : (s.setPump p x).draws = s.draws := rfl
end setPump

section setTimer
variable (t : TimerNo) (x : Timer)
@[simp] theorem State.setTimer_pending : (s.setTimer t x).pending = s.pending := rfl
@[simp] theorem State.setTimer_phase : (s.setTimer t x).phase = s.phase := rfl
@[simp] theorem State.setTimer_resetLow : (s.setTimer t x).resetLow = s.resetLow := rfl
@[simp] theorem State.setTimer_fittedScreens : (s.setTimer t x).fittedScreens = s.fittedScreens := rfl
@[simp] theorem State.setTimer_fittedPumps : (s.setTimer t x).fittedPumps = s.fittedPumps := rfl
@[simp] theorem State.setTimer_port : (s.setTimer t x).port = s.port := rfl
@[simp] theorem State.setTimer_mem : (s.setTimer t x).mem = s.mem := rfl
@[simp] theorem State.setTimer_hands : (s.setTimer t x).hands = s.hands := rfl
@[simp] theorem State.setTimer_intake : (s.setTimer t x).intake = s.intake := rfl
@[simp] theorem State.setTimer_time : (s.setTimer t x).time = { s.time with timers := upd s.time.timers t x } := rfl
@[simp] theorem State.setTimer_level : (s.setTimer t x).level = s.level := rfl
@[simp] theorem State.setTimer_tide : (s.setTimer t x).tide = s.tide := rfl
@[simp] theorem State.setTimer_alarm : (s.setTimer t x).alarm = s.alarm := rfl
@[simp] theorem State.setTimer_screens : (s.setTimer t x).screens = s.screens := rfl
@[simp] theorem State.setTimer_wash : (s.setTimer t x).wash = s.wash := rfl
@[simp] theorem State.setTimer_pumps : (s.setTimer t x).pumps = s.pumps := rfl
@[simp] theorem State.setTimer_duty : (s.setTimer t x).duty = s.duty := rfl
@[simp] theorem State.setTimer_wires : (s.setTimer t x).wires = s.wires := rfl
@[simp] theorem State.setTimer_draws : (s.setTimer t x).draws = s.draws := rfl
end setTimer

section setWash
variable (w : Wash)
@[simp] theorem State.setWash_pending : (s.setWash w).pending = s.pending := rfl
@[simp] theorem State.setWash_phase : (s.setWash w).phase = s.phase := rfl
@[simp] theorem State.setWash_resetLow : (s.setWash w).resetLow = s.resetLow := rfl
@[simp] theorem State.setWash_fittedScreens : (s.setWash w).fittedScreens = s.fittedScreens := rfl
@[simp] theorem State.setWash_fittedPumps : (s.setWash w).fittedPumps = s.fittedPumps := rfl
@[simp] theorem State.setWash_port : (s.setWash w).port = s.port := rfl
@[simp] theorem State.setWash_mem : (s.setWash w).mem = s.mem := rfl
@[simp] theorem State.setWash_hands : (s.setWash w).hands = s.hands := rfl
@[simp] theorem State.setWash_intake : (s.setWash w).intake = s.intake := rfl
@[simp] theorem State.setWash_time : (s.setWash w).time = s.time := rfl
@[simp] theorem State.setWash_level : (s.setWash w).level = s.level := rfl
@[simp] theorem State.setWash_tide : (s.setWash w).tide = s.tide := rfl
@[simp] theorem State.setWash_alarm : (s.setWash w).alarm = s.alarm := rfl
@[simp] theorem State.setWash_screens : (s.setWash w).screens = s.screens := rfl
@[simp] theorem State.setWash_wash : (s.setWash w).wash = w := rfl
@[simp] theorem State.setWash_pumps : (s.setWash w).pumps = s.pumps := rfl
@[simp] theorem State.setWash_duty : (s.setWash w).duty = s.duty := rfl
@[simp] theorem State.setWash_wires : (s.setWash w).wires = s.wires := rfl
@[simp] theorem State.setWash_draws : (s.setWash w).draws = s.draws := rfl
end setWash

section setDuty
variable (d : Duty)
@[simp] theorem State.setDuty_pending : (s.setDuty d).pending = s.pending := rfl
@[simp] theorem State.setDuty_phase : (s.setDuty d).phase = s.phase := rfl
@[simp] theorem State.setDuty_resetLow : (s.setDuty d).resetLow = s.resetLow := rfl
@[simp] theorem State.setDuty_fittedScreens : (s.setDuty d).fittedScreens = s.fittedScreens := rfl
@[simp] theorem State.setDuty_fittedPumps : (s.setDuty d).fittedPumps = s.fittedPumps := rfl
@[simp] theorem State.setDuty_port : (s.setDuty d).port = s.port := rfl
@[simp] theorem State.setDuty_mem : (s.setDuty d).mem = s.mem := rfl
@[simp] theorem State.setDuty_hands : (s.setDuty d).hands = s.hands := rfl
@[simp] theorem State.setDuty_intake : (s.setDuty d).intake = s.intake := rfl
@[simp] theorem State.setDuty_time : (s.setDuty d).time = s.time := rfl
@[simp] theorem State.setDuty_level : (s.setDuty d).level = s.level := rfl
@[simp] theorem State.setDuty_tide : (s.setDuty d).tide = s.tide := rfl
@[simp] theorem State.setDuty_alarm : (s.setDuty d).alarm = s.alarm := rfl
@[simp] theorem State.setDuty_screens : (s.setDuty d).screens = s.screens := rfl
@[simp] theorem State.setDuty_wash : (s.setDuty d).wash = s.wash := rfl
@[simp] theorem State.setDuty_pumps : (s.setDuty d).pumps = s.pumps := rfl
@[simp] theorem State.setDuty_duty : (s.setDuty d).duty = d := rfl
@[simp] theorem State.setDuty_wires : (s.setDuty d).wires = s.wires := rfl
@[simp] theorem State.setDuty_draws : (s.setDuty d).draws = s.draws := rfl
end setDuty

section setTide
variable (t : Tide)
@[simp] theorem State.setTide_pending : (s.setTide t).pending = s.pending := rfl
@[simp] theorem State.setTide_phase : (s.setTide t).phase = s.phase := rfl
@[simp] theorem State.setTide_resetLow : (s.setTide t).resetLow = s.resetLow := rfl
@[simp] theorem State.setTide_fittedScreens : (s.setTide t).fittedScreens = s.fittedScreens := rfl
@[simp] theorem State.setTide_fittedPumps : (s.setTide t).fittedPumps = s.fittedPumps := rfl
@[simp] theorem State.setTide_port : (s.setTide t).port = s.port := rfl
@[simp] theorem State.setTide_mem : (s.setTide t).mem = s.mem := rfl
@[simp] theorem State.setTide_hands : (s.setTide t).hands = s.hands := rfl
@[simp] theorem State.setTide_intake : (s.setTide t).intake = s.intake := rfl
@[simp] theorem State.setTide_time : (s.setTide t).time = s.time := rfl
@[simp] theorem State.setTide_level : (s.setTide t).level = s.level := rfl
@[simp] theorem State.setTide_tide : (s.setTide t).tide = t := rfl
@[simp] theorem State.setTide_alarm : (s.setTide t).alarm = s.alarm := rfl
@[simp] theorem State.setTide_screens : (s.setTide t).screens = s.screens := rfl
@[simp] theorem State.setTide_wash : (s.setTide t).wash = s.wash := rfl
@[simp] theorem State.setTide_pumps : (s.setTide t).pumps = s.pumps := rfl
@[simp] theorem State.setTide_duty : (s.setTide t).duty = s.duty := rfl
@[simp] theorem State.setTide_wires : (s.setTide t).wires = s.wires := rfl
@[simp] theorem State.setTide_draws : (s.setTide t).draws = s.draws := rfl
end setTide

section setFlagIf
variable (c : Bool) (f : Flag)
@[simp] theorem State.setFlagIf_pending : (s.setFlagIf c f).pending = s.pending := by cases c <;> rfl
@[simp] theorem State.setFlagIf_phase : (s.setFlagIf c f).phase = s.phase := by cases c <;> rfl
@[simp] theorem State.setFlagIf_resetLow : (s.setFlagIf c f).resetLow = s.resetLow := by cases c <;> rfl
@[simp] theorem State.setFlagIf_fittedScreens : (s.setFlagIf c f).fittedScreens = s.fittedScreens := by cases c <;> rfl
@[simp] theorem State.setFlagIf_fittedPumps : (s.setFlagIf c f).fittedPumps = s.fittedPumps := by cases c <;> rfl
@[simp] theorem State.setFlagIf_mem : (s.setFlagIf c f).mem = s.mem := by cases c <;> rfl
@[simp] theorem State.setFlagIf_hands : (s.setFlagIf c f).hands = s.hands := by cases c <;> rfl
@[simp] theorem State.setFlagIf_intake : (s.setFlagIf c f).intake = s.intake := by cases c <;> rfl
@[simp] theorem State.setFlagIf_time : (s.setFlagIf c f).time = s.time := by cases c <;> rfl
@[simp] theorem State.setFlagIf_level : (s.setFlagIf c f).level = s.level := by cases c <;> rfl
@[simp] theorem State.setFlagIf_tide : (s.setFlagIf c f).tide = s.tide := by cases c <;> rfl
@[simp] theorem State.setFlagIf_alarm : (s.setFlagIf c f).alarm = s.alarm := by cases c <;> rfl
@[simp] theorem State.setFlagIf_screens : (s.setFlagIf c f).screens = s.screens := by cases c <;> rfl
@[simp] theorem State.setFlagIf_wash : (s.setFlagIf c f).wash = s.wash := by cases c <;> rfl
@[simp] theorem State.setFlagIf_pumps : (s.setFlagIf c f).pumps = s.pumps := by cases c <;> rfl
@[simp] theorem State.setFlagIf_duty : (s.setFlagIf c f).duty = s.duty := by cases c <;> rfl
@[simp] theorem State.setFlagIf_wires : (s.setFlagIf c f).wires = s.wires := by cases c <;> rfl
@[simp] theorem State.setFlagIf_draws : (s.setFlagIf c f).draws = s.draws := by cases c <;> rfl
end setFlagIf

/-! ## Records read after an update -/

/-- A screen after a screen is written. -/
theorem State.screen_setScreen (n m : ScreenNo) (x : Screen) :
    (s.setScreen n x).screen m = if m = n then x else s.screen m := sel_upd s.screens n m x

/-- The screen that was written. -/
@[simp] theorem State.screen_setScreen_same (n : ScreenNo) (x : Screen) : (s.setScreen n x).screen n = x :=
  sel_upd_same s.screens n x

/-- A pump after a pump is written. -/
theorem State.pump_setPump (p q : PumpNo) (x : Pump) : (s.setPump p x).pump q = if q = p then x else s.pump q :=
  sel_upd s.pumps.records p q x

/-- The pump that was written. -/
@[simp] theorem State.pump_setPump_same (p : PumpNo) (x : Pump) : (s.setPump p x).pump p = x :=
  sel_upd_same s.pumps.records p x

/-- A timer after a timer is written. -/
theorem State.timer_setTimer (t u : TimerNo) (x : Timer) : (s.setTimer t x).timer u = if u = t then x else s.timer u :=
  sel_upd s.time.timers t u x

/-- The timer that was written. -/
@[simp] theorem State.timer_setTimer_same (t : TimerNo) (x : Timer) : (s.setTimer t x).timer t = x :=
  sel_upd_same s.time.timers t x

/-- A hand after a hand is set. -/
theorem State.hand_setHand (e f : Entry) (h : Hand) : (s.setHand e h).hand f = if f = e then h else s.hand f :=
  sel_upd s.hands e f h

/-- The hand that was set. -/
@[simp] theorem State.hand_setHand_same (e : Entry) (h : Hand) : (s.setHand e h).hand e = h := sel_upd_same s.hands e h

/-- The flag that was set stands. -/
@[simp] theorem State.flag_setFlag_same (f : Flag) : (s.setFlag f).flag f = true := by
  cases f <;> simp [State.flag, State.setFlag, Flag.mask, Flag.position]

/-- A flag that stands stays when another is set. -/
theorem State.flag_setFlag_mono (f g : Flag) (h : s.flag g = true) : (s.setFlag f).flag g = true := by
  simp only [State.flag, State.setFlag, BitVec.getLsbD_or, Bool.or_eq_true] at *
  exact Or.inl h

/-- Setting a flag leaves every other as it was. -/
theorem State.flag_setFlag_ne (f g : Flag) (h : g ≠ f) : (s.setFlag f).flag g = s.flag g := by
  cases f <;> cases g <;> first | exact absurd rfl h | simp [State.flag, State.setFlag, Flag.mask, Flag.position]

/-- While the part runs, an event has its effect. -/
@[simp] theorem State.whenRunning_running (f : State → State) (h : s.phase = .running) : s.whenRunning f = f s := by
  simp [State.whenRunning, h]

/-- While the part does not run, an event has no effect. -/
theorem State.whenRunning_idle (f : State → State) (h : s.phase ≠ .running) : s.whenRunning f = s := by
  unfold State.whenRunning
  split <;> simp_all

end Sys2Proof.Machine
end

