-- ==== Sys2Proof/Laws/Ops.lean ====
section
/-!
SUPPORT. What the shared operations do: writing words, a completion (R13), a take (R10), the common checks (R12).
-/

namespace Sys2Proof.Machine

/-! ## Writing words -/

/-- Writing words changes memory alone. -/
theorem State.writeWords_frame (a : Nat) (ws : List Word) (s : State) :
    s.writeWords a ws = { s with mem := (s.writeWords a ws).mem } := by
  induction ws generalizing a s with
  | nil => rfl
  | cons w ws ih =>
    rw [State.writeWords, ih]
    rfl

/-- Writing words to addresses that may be listed keeps the canonical form. -/
theorem State.writeWords_wf (a : Nat) (ws : List Word) (s : State) (hm : Memory.wf s.mem = true)
    (ok : ∀ i, i < ws.length → a + i < 16384 ∧ isHandAddr (a + i) = false) :
    Memory.wf (s.writeWords a ws).mem = true := by
  induction ws generalizing a s with
  | nil => exact hm
  | cons w ws ih =>
    rw [State.writeWords]
    refine ih (a + 1) _ ?_ ?_
    · have := ok 0 (by simp)
      exact Memory.write_wf _ _ _ this.1 this.2 hm
    · intro i hi
      have := ok (i + 1) (by simp; omega)
      rw [Nat.add_assoc, Nat.add_comm 1 i]
      exact this

/-- What reads after words are written: the word written there, else what was there. -/
theorem State.writeWords_read (a c : Nat) (ws : List Word) (s : State) (hm : Memory.wf s.mem = true)
    (ok : ∀ i, i < ws.length → a + i < 16384 ∧ isHandAddr (a + i) = false) :
    Memory.read (s.writeWords a ws).mem c =
      if a ≤ c ∧ c < a + ws.length then ws.getD (c - a) 0 else Memory.read s.mem c := by
  induction ws generalizing a s with
  | nil =>
    rw [State.writeWords, if_neg]
    simp only [List.length_nil]
    omega
  | cons w ws ih =>
    have h0 := ok 0 (by simp)
    have hw : Memory.wf (s.writeWord a w).mem = true := Memory.write_wf _ _ _ h0.1 h0.2 hm
    rw [State.writeWords, ih (a + 1) (s.writeWord a w) hw]
    · simp only [List.length_cons, State.writeWord_mem]
      by_cases hc : c = a
      · subst hc
        rw [if_neg (by omega), if_pos (by omega), Memory.read_write_same _ _ _ hm]
        simp
      · rw [Memory.read_write_ne _ _ _ _ hc hm]
        by_cases hr : a ≤ c ∧ c < a + (ws.length + 1)
        · rw [if_pos (by omega), if_pos hr]
          have : c - a = (c - (a + 1)) + 1 := by omega
          rw [this, List.getD_cons_succ]
        · rw [if_neg (by omega), if_neg hr]
    · intro i hi
      have := ok (i + 1) (by simp; omega)
      rw [Nat.add_assoc, Nat.add_comm 1 i]
      exact this

/-! ## Addresses of an entry -/

/-- A word of an entry other than its hand may be listed. -/
theorem entryAddr_ok (e : Entry) (o : Nat) (h0 : o ≠ 0) (h : o < 32) :
    entryAddr e o < 16384 ∧ isHandAddr (entryAddr e o) = false := by
  have := e.isLt
  refine ⟨by unfold entryAddr; omega, ?_⟩
  have hm : o % 32 ≠ 0 := by omega
  simp [isHandAddr, entryAddr, hm]

/-- A word of the bulk area may be listed. -/
theorem bulkAddr_ok (a : Nat) (h : bulkStart ≤ a) (h' : a < memEnd) : a < 16384 ∧ isHandAddr a = false := by
  unfold bulkStart at h
  unfold memEnd at h'
  refine ⟨h', ?_⟩
  have : ¬ a < 1024 := by omega
  simp [isHandAddr, this]

/-- A word of an entry other than its hand, read as memory holds it. -/
theorem State.entryWord_eq (s : State) (e : Entry) (o : Nat) (h0 : o ≠ 0) (h : o < 32) :
    s.entryWord e o = Memory.read s.mem (entryAddr e o) := by
  simp [State.entryWord, State.memWord, (entryAddr_ok e o h0 h).2]

/-- The hand word of an entry. -/
theorem State.entryWord_hand (s : State) (e : Entry) : s.entryWord e 0 = (s.hand e).code := by
  have he := e.isLt
  have h1 : isHandAddr (entryAddr e 0) = true := by
    have : 32 * e.1 < 1024 := by omega
    simp [isHandAddr, entryAddr, this]
  have h2 : entryOf (entryAddr e 0) = e := by
    apply Fin.ext
    show (32 * e.1 + 0) / 32 % 32 = e.1
    omega
  simp [State.entryWord, State.memWord, h1, h2]

/-! ## Completion (R13) -/

/-- The fifteen answer words. -/
@[simp] theorem answerWords_length (l : List Word) : (answerWords l).length = 15 := by simp [answerWords]

/-- Answer word `k`: what was given, else 0. -/
theorem answerWords_getD (l : List Word) (k : Nat) (h : k < 15) : (answerWords l).getD k 0 = l.getD k 0 := by
  simp [answerWords, List.getD_eq_getElem?_getD, h]

/-- Writing the tag changes memory alone. -/
theorem State.writeTag_frame (s : State) (e : Entry) (tag : Option Word) :
    s.writeTag e tag = { s with mem := (s.writeTag e tag).mem } := by
  cases tag <;> rfl

/-- What a completion changes: memory, the hand, SUMMARY. -/
theorem State.complete_frame (s : State) (e : Entry) (tag : Option Word) (r : OrderResult) (answers : List Word) :
    s.complete e tag r answers =
      { s with
        mem := (s.complete e tag r answers).mem, hands := upd s.hands e .done
        port := { s.port with summary := s.port.summary ||| Flag.orderDone.mask } } := by
  unfold State.complete
  rw [State.writeWords_frame, State.writeTag_frame]
  generalize r.code :: answerWords answers = ws
  generalize (State.writeWords _ ws _).mem = m
  rfl

/-- What a completion does to memory. -/
theorem State.complete_mem (s : State) (e : Entry) (tag : Option Word) (r : OrderResult) (answers : List Word) :
    (s.complete e tag r answers).mem =
      ((s.writeTag e tag).writeWords (entryAddr e 16) (r.code :: answerWords answers)).mem := by
  unfold State.complete
  rw [State.setFlag_mem, State.setHand_mem]

/-- The words a completion writes may be listed. -/
theorem State.complete_ok (e : Entry) (r : OrderResult) (answers : List Word) (i : Nat)
    (h : i < (r.code :: answerWords answers).length) :
    entryAddr e 16 + i < 16384 ∧ isHandAddr (entryAddr e 16 + i) = false := by
  have hi : i < 16 := by simpa using h
  have : entryAddr e 16 + i = entryAddr e (16 + i) := by unfold entryAddr; omega
  rw [this]
  exact entryAddr_ok e (16 + i) (by omega) (by omega)

/-- Writing the tag keeps the canonical form. -/
theorem State.writeTag_wf (s : State) (e : Entry) (tag : Option Word) (h : Memory.wf s.mem = true) :
    Memory.wf (s.writeTag e tag).mem = true := by
  cases tag with
  | none => exact h
  | some t =>
    have ok := entryAddr_ok e 2 (by omega) (by omega)
    exact Memory.write_wf _ _ _ ok.1 ok.2 h

/-- A completion keeps the canonical form. -/
theorem State.complete_wf (s : State) (e : Entry) (tag : Option Word) (r : OrderResult) (answers : List Word)
    (h : Memory.wf s.mem = true) : Memory.wf (s.complete e tag r answers).mem = true := by
  rw [State.complete_mem]
  exact State.writeWords_wf _ _ _ (s.writeTag_wf e tag h) (State.complete_ok e r answers)

section completeFields
variable (s : State) (e : Entry) (tag : Option Word) (r : OrderResult) (answers : List Word)
@[simp] theorem State.complete_pending : (s.complete e tag r answers).pending = s.pending := by rw [State.complete_frame]
@[simp] theorem State.complete_phase : (s.complete e tag r answers).phase = s.phase := by rw [State.complete_frame]
@[simp] theorem State.complete_resetLow : (s.complete e tag r answers).resetLow = s.resetLow := by rw [State.complete_frame]
@[simp] theorem State.complete_fittedScreens : (s.complete e tag r answers).fittedScreens = s.fittedScreens := by rw [State.complete_frame]
@[simp] theorem State.complete_fittedPumps : (s.complete e tag r answers).fittedPumps = s.fittedPumps := by rw [State.complete_frame]
@[simp] theorem State.complete_intake : (s.complete e tag r answers).intake = s.intake := by rw [State.complete_frame]
@[simp] theorem State.complete_time : (s.complete e tag r answers).time = s.time := by rw [State.complete_frame]
@[simp] theorem State.complete_level : (s.complete e tag r answers).level = s.level := by rw [State.complete_frame]
@[simp] theorem State.complete_tide : (s.complete e tag r answers).tide = s.tide := by rw [State.complete_frame]
@[simp] theorem State.complete_alarm : (s.complete e tag r answers).alarm = s.alarm := by rw [State.complete_frame]
@[simp] theorem State.complete_screens : (s.complete e tag r answers).screens = s.screens := by rw [State.complete_frame]
@[simp] theorem State.complete_wash : (s.complete e tag r answers).wash = s.wash := by rw [State.complete_frame]
@[simp] theorem State.complete_pumps : (s.complete e tag r answers).pumps = s.pumps := by rw [State.complete_frame]
@[simp] theorem State.complete_duty : (s.complete e tag r answers).duty = s.duty := by rw [State.complete_frame]
@[simp] theorem State.complete_wires : (s.complete e tag r answers).wires = s.wires := by rw [State.complete_frame]
@[simp] theorem State.complete_draws : (s.complete e tag r answers).draws = s.draws := by rw [State.complete_frame]
@[simp] theorem State.complete_hands : (s.complete e tag r answers).hands = upd s.hands e .done := by
  rw [State.complete_frame]
end completeFields

/-- The hands after a completion. -/
theorem State.hand_complete (s : State) (e f : Entry) (tag : Option Word) (r : OrderResult) (answers : List Word) :
    (s.complete e tag r answers).hand f = if f = e then .done else s.hand f := by
  simp only [State.hand, State.complete_hands]
  exact sel_upd s.hands e f .done

/-! ## The take (R10) -/

/-- The argument words of the working copy are the entry's words (R10, R200). -/
theorem State.copyEntry_arg (s : State) (e : Entry) (w : Nat) (h : 3 ≤ w) (h' : w ≤ 15) :
    (s.copyEntry e).arg w = s.entryWord e w := by
  have h1 : w - 3 < 13 := by omega
  have h2 : entryAddr e 3 + (w - 3) = entryAddr e w := by unfold entryAddr; omega
  simp [WorkingCopy.arg, State.copyEntry, State.words, List.getD_eq_getElem?_getD, h1, h2, State.entryWord]

/-- The working copy's entry and tag. -/
@[simp] theorem State.copyEntry_entry (s : State) (e : Entry) : (s.copyEntry e).entry = e := rfl
@[simp] theorem State.copyEntry_tag (s : State) (e : Entry) : (s.copyEntry e).tag = s.entryWord e 2 := rfl

/-- The take of a head of the kind runs the body on the state with the index gone and the hand TAKEN (R10). -/
theorem State.take_head (s : State) (e : Entry) (rest : List Entry) (kind : Option OrderKind)
    (body : WorkingCopy → State → State) (hp : s.phase = .running) (hi : s.intake = e :: rest)
    (hk : OrderKind.ofWord (s.entryWord e 1) = kind) :
    s.take kind body = body (s.copyEntry e) (({ s with intake := rest }).setHand e .taken) := by
  simp [State.take, hp, hi, hk]

/-- The take of an immediate order completes it with what its rule gives (R10, R13). -/
theorem State.takeImmediate_head (s : State) (e : Entry) (rest : List Entry) (kind : OrderKind)
    (rule : WorkingCopy → State → Reply) (hp : s.phase = .running) (hi : s.intake = e :: rest)
    (hk : OrderKind.ofWord (s.entryWord e 1) = some kind) :
    s.takeImmediate kind rule =
      finish (s.copyEntry e) (rule (s.copyEntry e) (({ s with intake := rest }).setHand e .taken)) :=
  s.take_head e rest (some kind) _ hp hi hk

/-- A take that does not come, for want of a head of the kind, changes nothing (log 1). -/
theorem State.take_none (s : State) (kind : Option OrderKind) (body : WorkingCopy → State → State)
    (h : ∀ e rest, s.intake = e :: rest → OrderKind.ofWord (s.entryWord e 1) ≠ kind) : s.take kind body = s := by
  unfold State.take State.whenRunning
  split
  · dsimp only
    split
    · rfl
    · next e rest hi => rw [if_neg (h e rest hi)]
  · rfl
  · rfl
  · rfl

/-- Everything a take can do: nothing, or its body on the taken state (R10). -/
theorem State.take_cases (s : State) (kind : Option OrderKind) (body : WorkingCopy → State → State) :
    s.take kind body = s ∨ ∃ e rest, s.phase = .running ∧ s.intake = e :: rest ∧
      OrderKind.ofWord (s.entryWord e 1) = kind ∧
        s.take kind body = body (s.copyEntry e) (({ s with intake := rest }).setHand e .taken) := by
  by_cases hp : s.phase = .running
  · cases hi : s.intake with
    | nil => exact Or.inl (s.take_none kind body fun e rest h => by rw [hi] at h; cases h)
    | cons e rest =>
      by_cases hk : OrderKind.ofWord (s.entryWord e 1) = kind
      · exact Or.inr ⟨e, rest, hp, rfl, hk, s.take_head e rest kind body hp hi hk⟩
      · refine Or.inl (s.take_none kind body fun f r h => ?_)
        rw [hi] at h
        cases h
        exact hk
  · exact Or.inl (s.whenRunning_idle _ hp)

/-! ## Common checks (R12) -/

/-- A fitted screen's number passes the common checks. -/
theorem forScreen_fitted (w : Word) (s : State) (k : ScreenNo → Reply) (h : w.toNat < 6)
    (hf : s.screenFitted ⟨w.toNat, h⟩ = true) : forScreen w s k = k ⟨w.toNat, h⟩ := by
  simp [forScreen, h, hf]

/-- Everything the common check of a screen number gives. -/
theorem forScreen_cases (w : Word) (s : State) (k : ScreenNo → Reply) :
    forScreen w s k = refuse .badArgument s ∨ forScreen w s k = refuse .notFitted s ∨
      ∃ n, s.screenFitted n = true ∧ forScreen w s k = k n := by
  unfold forScreen
  split
  · next h =>
    split
    · next hf => exact Or.inr (Or.inr ⟨_, hf, rfl⟩)
    · exact Or.inr (Or.inl rfl)
  · exact Or.inl rfl

/-- A fitted pump's number passes the common checks. -/
theorem forPump_fitted (w : Word) (s : State) (k : PumpNo → Reply) (h : w.toNat < 6)
    (hf : s.pumpFitted ⟨w.toNat, h⟩ = true) : forPump w s k = k ⟨w.toNat, h⟩ := by
  simp [forPump, h, hf]

/-- Everything the common check of a pump number gives. -/
theorem forPump_cases (w : Word) (s : State) (k : PumpNo → Reply) :
    forPump w s k = refuse .badArgument s ∨ forPump w s k = refuse .notFitted s ∨
      ∃ p, s.pumpFitted p = true ∧ forPump w s k = k p := by
  unfold forPump
  split
  · next h =>
    split
    · next hf => exact Or.inr (Or.inr ⟨_, hf, rfl⟩)
    · exact Or.inr (Or.inl rfl)
  · exact Or.inl rfl

/-- Everything the check of a record number of sixteen gives. -/
theorem forSixteen_cases (w : Word) (s : State) (k : Fin 16 → Reply) :
    forSixteen w s k = refuse .badArgument s ∨ ∃ i, forSixteen w s k = k i := by
  unfold forSixteen
  split
  · exact Or.inr ⟨_, rfl⟩
  · exact Or.inl rfl

end Sys2Proof.Machine
end

