-- ==== Sys2Proof/Laws/Units.lean ====
section
/-!
SUPPORT. The shared operations of the screen, wash, pump and duty units in the words of the statements: each once, so that a
proof cites it instead of unfolding it.
-/

namespace Sys2Proof

open Sys2Proof.Machine

/-! ## Flags and wires -/

theorem setFlag_eq (s : State) (f : Flag) : s.setFlag f = withFlag s f := rfl

/-! ## Pumps (R154, R155, R140, R160, R161, R163) -/

/-- A report is sent exactly for a change of state, service or availability (R155). -/
theorem reportIfChanged_eq (before t : State) (p : PumpNo) :
    State.reportIfChanged before t p =
      { t with wires := { t.wires with
          pumpReports := t.wires.pumpReports ++
            if (before.pump p).state = (t.pump p).state ∧ (before.pump p).service = (t.pump p).service ∧
                (before.pump p).available = (t.pump p).available then []
            else [t.pumpReport p false] } } := by
  unfold State.reportIfChanged Pump.changed State.sendReport
  by_cases h1 : (before.pump p).state = (t.pump p).state <;>
    by_cases h2 : (before.pump p).service = (t.pump p).service <;>
      by_cases h3 : (before.pump p).available = (t.pump p).available <;> simp [h1, h2, h3]

/-- The running-pump report is sent exactly for a change of the number in RUNNING (R140). -/
theorem reportRunning_eq (t before : State) :
    t.reportRunning before =
      { t with wires := { t.wires with
          runningReports := t.wires.runningReports ++
            if t.runningCount = before.runningCount then [] else [t.runningCount] } } := by
  unfold State.reportRunning
  split <;> simp

/-- Availability re-evaluated after the record becomes `x`. -/
theorem reevaluate_setPump (s : State) (p : PumpNo) (x : Pump) :
    (s.setPump p x).reevaluate p = s.setPump p { x with available := x.canStart (s.pumpFitted p) s.pumps.lastW } := by
  have canStart : (s.setPump p x).canStart p = x.canStart (s.pumpFitted p) s.pumps.lastW := by
    unfold State.canStart
    rw [State.pump_setPump_same]
    rfl
  unfold State.reevaluate
  rw [canStart, State.pump_setPump_same]
  simp [State.setPump]

/-- An event at one pump in closed form. -/
theorem pumpEvent_eq (s : State) (p : PumpNo) (f : Pump → Pump) : s.pumpEvent p f = pumpBecomes s p (f (s.pump p)) := by
  unfold State.pumpEvent State.settlePumps
  simp only [List.foldl_cons, List.foldl_nil]
  rw [reevaluate_setPump, reportIfChanged_eq, reportRunning_eq]
  unfold State.pumpReport
  rw [State.pump_setPump_same]
  rfl

/-- The records of a pump that stops, trips or comes to rest, in the words of the statements. -/
theorem stopped_eq (cause : StopCause) (x : Pump) (h : x.state = .starting ∨ x.state = .running) :
    x.stopped cause = stoppedFor cause x := by
  unfold Pump.stopped
  rcases h with h | h <;> simp [h, PumpState.run, stoppedFor]

theorem stopped_idle (cause : StopCause) (x : Pump) (h : x.state ≠ .starting) (h' : x.state ≠ .running) :
    x.stopped cause = x := by
  unfold Pump.stopped
  cases hs : x.state <;> simp_all [PumpState.run]

theorem tripped_eq (cause : StopCause) (x : Pump) : x.tripped cause = trippedFor cause x := rfl

theorem atRest_eq (x : Pump) : x.atRest = restingPump x := rfl

theorem trip_eq (cause : StopCause) (p : PumpNo) (s : State) :
    s.trip cause p = withFlag (pumpBecomes s p (trippedFor cause (s.pump p))) .pump := by
  unfold State.trip
  rw [pumpEvent_eq]
  rfl

/-! ## The wash queue and the screens -/

theorem joinTail_eq (n : ScreenNo) (x : Screen) (q : List (ScreenNo × WashClass)) :
    joinTail n x.washClass q = joined n x.choked q := by
  unfold Screen.washClass joined
  cases x.choked <;> simp [joinTail, classOf]

theorem leave_eq (n : ScreenNo) (q : List (ScreenNo × WashClass)) : leave n q = without n q := rfl

theorem completeWash_eq (x : Screen) (r : OrderResult) (s : State) : s.completeWash x r = washOrderEnded x r s := rfl

theorem sendChokeFrom_eq (before : Bool) (s : State) : s.sendChokeFrom before = chokeSent before s := rfl

theorem joinScreen_eq (n : ScreenNo) (x : Screen) (s : State) :
    s.joinScreen n x = withScreen s n x { s.wash with queue := joined n x.choked s.wash.queue } := by
  unfold State.joinScreen
  rw [← joinTail_eq]
  rfl

theorem endWash_eq (n : ScreenNo) (s : State) :
    s.endWash n = withScreen s n (rundownScreen (s.screen n)) { s.wash with slots := s.wash.slots - 1 } := rfl

theorem parkQueued_eq (n : ScreenNo) (s : State) :
    s.parkQueued n = withScreen s n (parkedScreen (s.screen n)) { s.wash with queue := without n s.wash.queue } := rfl

/-- A stall in closed form (R124). -/
theorem stallScreen_eq (n : ScreenNo) (s : State) :
    s.stallScreen n =
      withFlag (washOrderEnded (s.screen n) .failed (withScreen s n (stalledScreen (s.screen n))
        { s.wash with slots := if (s.screen n).state.holdsSlot then s.wash.slots - 1 else s.wash.slots })) .screen := by
  unfold State.stallScreen
  cases h : (s.screen n).state.holdsSlot <;> simp only [h] <;> rfl

/-- What a wash request does at a screen (R116, R117). -/
theorem request_eq (n : ScreenNo) (c : Cause) (s : State) :
    s.request n c =
      let x := s.screen n
      if x.service = .held ∨ x.state = .stalled then s
      else if x.state = .parked then
        withScreen s n
          { x with state := .queued, causes := CauseSet.empty.add c, turnsDone := 0, turnsWanted := x.configTurns }
          { s.wash with queue := joined n x.choked s.wash.queue }
      else if x.state = .rundown then withScreen s n { x with stored := x.stored.add c, again := true } s.wash
      else withScreen s n { x with causes := x.causes.add c } s.wash := by
  unfold State.request
  cases hs : (s.screen n).service <;> cases hx : (s.screen n).state <;>
    simp [hs, hx, joinScreen_eq, Screen.queued, withScreen, State.setScreen]

/-- Two writes of one screen are the second. -/
theorem withScreen_withScreen (s : State) (n : ScreenNo) (x y : Screen) (v w : Wash) :
    withScreen (withScreen s n x v) n y w = withScreen s n y w := by simp [withScreen]

/-- The onset of choke in closed form (R127). -/
theorem choke_eq (s : State) (n : ScreenNo) :
    s.choke n =
      withScreen (withFlag s .screen) n
        { s.screen n with choked := true, fast := (s.screen n).fast || (s.screen n).state.holdsSlot }
        { s.wash with queue :=
            if (n, WashClass.routine) ∈ s.wash.queue then joined n true (without n s.wash.queue) else s.wash.queue } := by
  have hp : promote n s.wash.queue =
      if (n, WashClass.routine) ∈ s.wash.queue then joined n true (without n s.wash.queue) else s.wash.queue := by
    unfold promote
    split
    · simp [joinTail, joined, classOf, without, leave]
    · rfl
  rw [← hp]
  rfl

/-- Step 1 of R126 in closed form, the last dP stored with it. -/
theorem markChoke_eq (s : State) (n : ScreenNo) (d : Differential) :
    (s.setScreen n ((s.screen n).keepDp d)).markChoke n d =
      let x := s.screen n
      let reaches := d.valid && decide (x.chokeThreshold ≤ d.value) && x.service == .inService
      let onset := reaches && !x.choked
      withScreen (if onset then withFlag s .screen else s) n
        { x with
          lastDp := d
          dpReached := d.valid && decide (x.startThreshold ≤ d.value)
          choked := if reaches then true else if d.valid && decide (d.value < x.startThreshold) then false else x.choked
          fast := x.fast || (onset && (x.state == .starting || x.state == .washing)) }
        { s.wash with queue :=
            if onset && decide ((n, WashClass.routine) ∈ s.wash.queue) then joined n true (without n s.wash.queue)
            else s.wash.queue } := by
  have slot : ∀ st : ScreenState, st.holdsSlot = (st == .starting || st == .washing) := by
    intro st
    cases st <;> rfl
  have same : ∀ x : Screen, (s.setScreen n x).screen n = x := fun x => State.screen_setScreen_same s n x
  have flag : ∀ x : Screen, withFlag (s.setScreen n x) .screen = withScreen (withFlag s .screen) n x s.wash := fun _ => rfl
  have wash : ∀ x : Screen, (s.setScreen n x).wash = s.wash := fun _ => rfl
  unfold State.markChoke
  rw [choke_eq]
  simp only [same, flag, wash, withScreen_withScreen, slot, Screen.keepDp]
  generalize s.screen n = x
  cases hd : d.valid
  · simp [withScreen, State.setScreen]
  simp only [Bool.true_and, if_true]
  cases hr : (decide (x.chokeThreshold ≤ d.value) && x.service == .inService)
  · by_cases hb : d.value < x.startThreshold <;> simp [hb, withScreen, State.setScreen]
  · cases hc : x.choked
    · simp [withScreen]
    · simp [withScreen, State.setScreen]

/-- A screen's part of a differential report in closed form (R126, R127). -/
theorem differentialAt_eq (s : State) (n : ScreenNo) (d : Differential) :
    s.differentialAt n d = differentialHandled s n d := by
  unfold State.differentialAt differentialHandled State.differentialRequest
  rw [request_eq, markChoke_eq]
  have same : ∀ (t : State) (x : Screen) (w : Wash), (withScreen t n x w).screen n = x := fun t x w => sel_upd_same _ _ _
  have wash : ∀ (t : State) (x : Screen) (w : Wash), (withScreen t n x w).wash = w := fun _ _ _ => rfl
  simp only [same, wash, withScreen_withScreen]
  generalize s.screen n = x
  cases s.screenFitted n
  · simp
  cases hd : d.valid
  · simp
  cases ha : decide (x.startThreshold ≤ d.value)
  · simp only
    rfl
  cases hs : x.service
  · cases hx : x.state <;> simp [CauseSet.add, CauseSet.empty]
  · simp

/-! ## Duty -/

theorem countsRunning_eq (d : Duty) (p : PumpNo) : d.countsRunning p = countedRunning d p := rfl
theorem countsAvailable_eq (d : Duty) (p : PumpNo) : d.countsAvailable p = countedAvailable d p := rfl
theorem runningSet_eq (d : Duty) : d.runningSet = countedSet d := rfl
theorem runningCount_eq (d : Duty) : d.runningCount = (countedSet d).length := rfl
theorem target_eq (d : Duty) : d.target = targetSet d := rfl
theorem starting_eq (m : Move) : m.starting = startsOne m := by cases m <;> rfl

/-- The running limit is the minimum of its terms (R174). -/
theorem limitOf_eq (d : Duty) : d.limitOf = runningLimit d := by
  unfold Duty.limitOf runningLimit
  cases d.floorCopy <;> cases d.chokeCopy <;> simp
  omega

/-- The running set is the target set exactly when they hold the same pumps of the roster (R177). -/
theorem onTarget_iff (d : Duty) :
    d.onTarget = true ↔ ∀ p ∈ d.roster, (countedRunning d p = true ↔ p ∈ targetSet d) := by
  unfold Duty.onTarget
  rw [List.all_eq_true]
  refine forall₂_congr fun p _ => ?_
  rw [countsRunning_eq, target_eq]
  cases countedRunning d p <;> simp

theorem askStop_eq (p : PumpNo) (s : State) : s.askStop p = stopSentTo p s := rfl

theorem inFlight_iff (m : Move) : m.inFlight = true ↔ m ≠ .none := by cases m <;> simp [Move.inFlight]

theorem restored_eq (d : Duty) : ({ d with savedRoster := none, roster := d.savedRoster.getD d.roster } : Duty) = d.restored := by
  unfold Duty.restored
  cases h : d.savedRoster with
  | none => cases d; simp_all
  | some r => rfl

theorem completeChange_eq (r : OrderResult) (i o : PumpNo) (s : State) : s.completeChange r i o = changeOrderEnded r i o s := rfl

/-- A CHANGE that ends other than OK, in the words of the statements (R185, R186, R187, R190). -/
theorem abandonChange_eq (m : Move) (r : OrderResult) (i o : PumpNo) (s : State) :
    s.abandonChange m r i o = changeOrderEnded r i o { s with duty := restoredWith m s.duty } := by
  unfold State.abandonChange State.restoreRoster
  rw [completeChange_eq]
  unfold changeOrderEnded restoredWith
  cases hc : s.duty.changeOrder <;> simp [hc, State.setMove, State.setDuty, ← restored_eq]
  rw [State.complete_frame]
  conv_rhs => rw [State.complete_frame]
  rfl

/-- The stops of case 1 in closed form (R178). -/
theorem askStops_eq (l : List PumpNo) (s : State) :
    l.foldl (fun t p => t.askStop p) s =
      { s with
        wires := { s.wires with pumpRequests := s.wires.pumpRequests ++ l.map fun p => .stop p }
        duty := { s.duty with
          view := tab fun p => if p ∈ l then { sel s.duty.view p with stopSent := true } else sel s.duty.view p } } := by
  induction l generalizing s with
  | nil =>
    have : (tab fun p => sel s.duty.view p) = s.duty.view := table_ext _ _ fun i => by simp
    simp [this]
  | cons q l ih =>
    rw [List.foldl_cons, ih]
    have : (tab fun p => if p ∈ l then { sel (s.askStop q).duty.view p with stopSent := true }
          else sel (s.askStop q).duty.view p) =
        tab fun p => if p ∈ q :: l then { sel s.duty.view p with stopSent := true } else sel s.duty.view p := by
      apply table_ext
      intro i
      simp only [sel_tab, State.askStop, Duty.markStop, sel_upd, List.mem_cons]
      by_cases h : i = q <;> by_cases h' : i ∈ l <;> simp [h, h']
    rw [this]
    simp [State.askStop, Duty.markStop]

end Sys2Proof
end

