-- ==== Sys2Proof/Laws/Duty.lean ====
section
/-!
SUPPORT. What an event of the duty unit can change at all (R177): the port, exchange memory and hands by a completion, the messages
on their way and the duty record; every other field of the state stands.
-/

namespace Sys2Proof

open Sys2Proof.Machine

/-- `t` is `s` but for the port, exchange memory, hands, messages on their way and the duty record. -/
def DutyOnly (s t : State) : Prop :=
  t = { s with port := t.port, mem := t.mem, hands := t.hands, wires := t.wires, duty := t.duty }

theorem DutyOnly.refl (s : State) : DutyOnly s s := rfl

theorem DutyOnly.trans {s t u : State} (h : DutyOnly s t) (h' : DutyOnly t u) : DutyOnly s u := by
  unfold DutyOnly at *
  rw [h', h]

theorem setDuty_dutyOnly (s : State) (d : Duty) : DutyOnly s (s.setDuty d) := rfl
theorem setMove_dutyOnly (s : State) (m : Move) : DutyOnly s (s.setMove m) := rfl
theorem setFlag_dutyOnly (s : State) (f : Flag) : DutyOnly s (s.setFlag f) := rfl
theorem askStart_dutyOnly (s : State) (p : PumpNo) : DutyOnly s (s.askStart p) := rfl
theorem askStop_dutyOnly (s : State) (p : PumpNo) : DutyOnly s (s.askStop p) := rfl
theorem restoreRoster_dutyOnly (s : State) : DutyOnly s s.restoreRoster := rfl

theorem setFlagIf_dutyOnly (s : State) (c : Bool) (f : Flag) : DutyOnly s (s.setFlagIf c f) := by cases c <;> rfl

theorem complete_dutyOnly (s : State) (e : Entry) (tag : Option Word) (r : OrderResult) (answers : List Word) :
    DutyOnly s (s.complete e tag r answers) := by
  unfold DutyOnly
  conv_lhs => rw [State.complete_frame]
  simp
  rw [State.complete_frame]

theorem completeChange_dutyOnly (s : State) (r : OrderResult) (i o : PumpNo) : DutyOnly s (s.completeChange r i o) := by
  unfold State.completeChange
  split
  · exact DutyOnly.refl s
  · exact (setDuty_dutyOnly s _).trans (complete_dutyOnly _ _ _ _ _)

theorem abandonChange_dutyOnly (s : State) (m : Move) (r : OrderResult) (i o : PumpNo) :
    DutyOnly s (s.abandonChange m r i o) :=
  (setMove_dutyOnly s m).trans ((completeChange_dutyOnly _ r i o).trans (restoreRoster_dutyOnly _))

theorem changeDone_dutyOnly (s : State) (i o : PumpNo) : DutyOnly s (s.changeDone i o) :=
  (askStop_dutyOnly s o).trans ((setMove_dutyOnly _ _).trans ((setDuty_dutyOnly _ _).trans (completeChange_dutyOnly _ _ i o)))

theorem endMove_dutyOnly (s : State) : DutyOnly s s.endMove := by
  unfold State.endMove
  split
  · exact DutyOnly.refl s
  · exact (askStop_dutyOnly s _).trans (setMove_dutyOnly _ _)
  · exact (askStop_dutyOnly s _).trans ((setFlag_dutyOnly _ _).trans (abandonChange_dutyOnly _ _ _ _ _))

theorem stopExcess_dutyOnly (s : State) : DutyOnly s s.stopExcess := by
  unfold State.stopExcess
  rw [askStops_eq]
  rfl

theorem fallShort_dutyOnly (s : State) : DutyOnly s s.fallShort :=
  (setDuty_dutyOnly s _).trans (setFlagIf_dutyOnly _ _ _)

theorem startOne_dutyOnly (s : State) : DutyOnly s s.startOne := by
  unfold State.startOne
  split
  · exact (askStart_dutyOnly s _).trans (setMove_dutyOnly _ _)
  · exact fallShort_dutyOnly s

theorem changeOver_dutyOnly (s : State) : DutyOnly s s.changeOver := by
  unfold State.changeOver
  split
  · exact (askStart_dutyOnly s _).trans (setMove_dutyOnly _ _)
  · exact DutyOnly.refl s
  · exact DutyOnly.refl s

theorem reconcileOnce_dutyOnly (s t : State) (h : s.reconcileOnce = some t) : DutyOnly s t := by
  unfold State.reconcileOnce at h
  split at h
  · cases h
    exact (endMove_dutyOnly s).trans (stopExcess_dutyOnly _)
  · split at h
    · cases h
      exact startOne_dutyOnly s
    · split at h
      · cases h
        exact changeOver_dutyOnly s
      · cases h

theorem applyPending_dutyOnly (s : State) : DutyOnly s s.applyPending := by
  unfold State.applyPending
  split
  · exact setDuty_dutyOnly s _
  · simp only
    split
    · next t h => exact (setDuty_dutyOnly s _).trans ((setDuty_dutyOnly _ _).trans (reconcileOnce_dutyOnly _ t h))
    · exact (setDuty_dutyOnly s _).trans (setDuty_dutyOnly _ _)

/-- What a reconcile can change at all (R177). -/
theorem reconcile_dutyOnly (s : State) : DutyOnly s s.reconcile := by
  unfold State.reconcile
  split
  · next t h => exact reconcileOnce_dutyOnly s t h
  · split
    · exact applyPending_dutyOnly s
    · exact DutyOnly.refl s

theorem settleShortfall_dutyOnly (s : State) : DutyOnly s s.settleShortfall := by
  unfold State.settleShortfall
  split
  · exact setDuty_dutyOnly s _
  · exact DutyOnly.refl s

/-- What steps 3 to 5 of R177 can change at all. -/
theorem dutyEvent_dutyOnly (s : State) (before : Duty) : DutyOnly s (s.dutyEvent before) := by
  unfold State.dutyEvent
  simp only
  split
  · exact (setDuty_dutyOnly s _).trans ((reconcile_dutyOnly _).trans (settleShortfall_dutyOnly _))
  · exact setDuty_dutyOnly s _

/-- What the move rules can change at all (R183 to R186). -/
theorem moveRules_dutyOnly (s : State) (r : PumpReport) (mark : Bool) : DutyOnly s (s.moveRules r mark) := by
  unfold State.moveRules
  split
  · exact DutyOnly.refl s
  · split
    · exact setMove_dutyOnly s _
    · exact DutyOnly.refl s
  · split
    · unfold State.incomingReport
      split
      · exact changeDone_dutyOnly s _ _
      · split
        · exact (setFlag_dutyOnly s _).trans (abandonChange_dutyOnly _ _ _ _ _)
        · exact DutyOnly.refl s
    · split
      · exact (setFlag_dutyOnly s _).trans (abandonChange_dutyOnly _ _ _ _ _)
      · exact DutyOnly.refl s

end Sys2Proof
end

