-- ==== Sys2Proof/Laws/Orders.lean ====
section
/-!
SUPPORT. Takes and completions in the words of the statements: what a take of a head entry runs, what its rule reads, and how a
completion of it is written.
-/

namespace Sys2Proof

open Sys2Proof.Machine

/-- The take of a head entry of the kind runs its body on the working copy and the taken state (R10). -/
theorem take_atHead (s : State) (e : Entry) (rest : List Entry) (k : Nat) (kind : Option OrderKind)
    (body : WorkingCopy → State → State) (h : AtHead s e rest k) (hk : OrderKind.ofWord (word k) = kind) :
    s.take kind body = body (s.copyEntry e) (takenState s e rest) :=
  s.take_head e rest kind body h.1 h.2.1 (by rw [h.2.2]; exact hk)

/-- The take of an immediate order completes it with what its rule gives (R10, R13). -/
theorem takeImmediate_atHead (s : State) (e : Entry) (rest : List Entry) (k : Nat) (kind : OrderKind)
    (rule : WorkingCopy → State → Reply) (h : AtHead s e rest k) (hk : OrderKind.ofWord (word k) = some kind) :
    s.takeImmediate kind rule = finish (s.copyEntry e) (rule (s.copyEntry e) (takenState s e rest)) :=
  take_atHead s e rest k (some kind) _ h hk

/-- An argument word that a rule reads. -/
theorem copyEntry_argWord (s : State) (e : Entry) (w : Nat) (h : 3 ≤ w) (h' : w ≤ 15) :
    (s.copyEntry e).arg w = argWord s e w := s.copyEntry_arg e w h h'

/-- An argument that a rule reads as a number. -/
theorem copyEntry_argNum (s : State) (e : Entry) (w : Nat) (h : 3 ≤ w) (h' : w ≤ 15) :
    (s.copyEntry e).num w = argNum s e w := by
  simp [WorkingCopy.num, s.copyEntry_arg e w h h', argNum]

/-- An argument that a rule reads as a signed value. -/
theorem copyEntry_argInt (s : State) (e : Entry) (w : Nat) (h : 3 ≤ w) (h' : w ≤ 15) :
    (s.copyEntry e).signed w = argInt s e w := by
  simp [WorkingCopy.signed, s.copyEntry_arg e w h h', argInt]

/-- The completion of the take's order, as the statements write it. -/
theorem finish_copyEntry (s : State) (e : Entry) (r : Reply) :
    finish (s.copyEntry e) r = answered s e r.2.1 r.2.2 r.1 := rfl

/-- A refusal in the words of the statements. -/
theorem finish_refuse (s : State) (e : Entry) (rest : List Entry) (r : OrderResult) :
    finish (s.copyEntry e) (refuse r (takenState s e rest)) = answered s e r [] (takenState s e rest) := rfl

/-- A reply in the words of the statements. -/
theorem finish_reply (s : State) (e : Entry) (answers : List Word) (t : State) :
    finish (s.copyEntry e) (reply answers t) = answered s e .ok answers t := rfl

section taken
variable (s : State) (e : Entry) (rest : List Entry)
@[simp] theorem takenState_pending : (takenState s e rest).pending = s.pending := rfl
@[simp] theorem takenState_phase : (takenState s e rest).phase = s.phase := rfl
@[simp] theorem takenState_resetLow : (takenState s e rest).resetLow = s.resetLow := rfl
@[simp] theorem takenState_fittedScreens : (takenState s e rest).fittedScreens = s.fittedScreens := rfl
@[simp] theorem takenState_fittedPumps : (takenState s e rest).fittedPumps = s.fittedPumps := rfl
@[simp] theorem takenState_port : (takenState s e rest).port = s.port := rfl
@[simp] theorem takenState_mem : (takenState s e rest).mem = s.mem := rfl
@[simp] theorem takenState_hands : (takenState s e rest).hands = upd s.hands e .taken := rfl
@[simp] theorem takenState_intake : (takenState s e rest).intake = rest := rfl
@[simp] theorem takenState_time : (takenState s e rest).time = s.time := rfl
@[simp] theorem takenState_level : (takenState s e rest).level = s.level := rfl
@[simp] theorem takenState_tide : (takenState s e rest).tide = s.tide := rfl
@[simp] theorem takenState_alarm : (takenState s e rest).alarm = s.alarm := rfl
@[simp] theorem takenState_screens : (takenState s e rest).screens = s.screens := rfl
@[simp] theorem takenState_wash : (takenState s e rest).wash = s.wash := rfl
@[simp] theorem takenState_pumps : (takenState s e rest).pumps = s.pumps := rfl
@[simp] theorem takenState_duty : (takenState s e rest).duty = s.duty := rfl
@[simp] theorem takenState_wires : (takenState s e rest).wires = s.wires := rfl
@[simp] theorem takenState_draws : (takenState s e rest).draws = s.draws := rfl
@[simp] theorem takenState_screen (n : ScreenNo) : (takenState s e rest).screen n = s.screen n := rfl
@[simp] theorem takenState_pump (p : PumpNo) : (takenState s e rest).pump p = s.pump p := rfl
@[simp] theorem takenState_timer (t : TimerNo) : (takenState s e rest).timer t = s.timer t := rfl
@[simp] theorem takenState_screenFitted (n : ScreenNo) : (takenState s e rest).screenFitted n = s.screenFitted n := rfl
@[simp] theorem takenState_pumpFitted (p : PumpNo) : (takenState s e rest).pumpFitted p = s.pumpFitted p := rfl
@[simp] theorem takenState_canStart (p : PumpNo) : (takenState s e rest).canStart p = s.canStart p := rfl
end taken

/-- A number is below 6 exactly as a screen or pump number names it. -/
theorem forScreen_atHead (s : State) (e : Entry) (rest : List Entry) (n : ScreenNo) (k : ScreenNo → Reply)
    (h : argNum s e 3 = n.1) (hf : s.screenFitted n = true) :
    forScreen ((s.copyEntry e).arg 3) (takenState s e rest) k = k n := by
  have h3 : ((s.copyEntry e).arg 3).toNat = n.1 := by
    rw [copyEntry_argWord s e 3 (by omega) (by omega)]
    exact h
  have hlt : ((s.copyEntry e).arg 3).toNat < 6 := by
    rw [h3]
    exact n.2
  have hn : (⟨((s.copyEntry e).arg 3).toNat, hlt⟩ : ScreenNo) = n := Fin.ext h3
  rw [forScreen_fitted _ _ _ hlt (by rw [hn]; exact hf), hn]

/-- A pump named by the first argument passes the common checks. -/
theorem forPump_atHead (s : State) (e : Entry) (rest : List Entry) (p : PumpNo) (k : PumpNo → Reply)
    (h : argNum s e 3 = p.1) (hf : s.pumpFitted p = true) :
    forPump ((s.copyEntry e).arg 3) (takenState s e rest) k = k p := by
  have h3 : ((s.copyEntry e).arg 3).toNat = p.1 := by
    rw [copyEntry_argWord s e 3 (by omega) (by omega)]
    exact h
  have hlt : ((s.copyEntry e).arg 3).toNat < 6 := by
    rw [h3]
    exact p.2
  have hn : (⟨((s.copyEntry e).arg 3).toNat, hlt⟩ : PumpNo) = p := Fin.ext h3
  rw [forPump_fitted _ _ _ hlt (by rw [hn]; exact hf), hn]

/-- A record of sixteen named by the first argument. -/
theorem forSixteen_atHead (s : State) (e : Entry) (rest : List Entry) (i : Fin 16) (k : Fin 16 → Reply)
    (h : argNum s e 3 = i.1) : forSixteen ((s.copyEntry e).arg 3) (takenState s e rest) k = k i := by
  have h3 : ((s.copyEntry e).arg 3).toNat = i.1 := by
    rw [copyEntry_argWord s e 3 (by omega) (by omega)]
    exact h
  have hlt : ((s.copyEntry e).arg 3).toNat < 16 := by
    rw [h3]
    exact i.2
  unfold forSixteen
  rw [dif_pos hlt]
  congr 1
  exact Fin.ext h3

/-- A record number above 15 is refused. -/
theorem forSixteen_above (s : State) (e : Entry) (rest : List Entry) (k : Fin 16 → Reply) (h : 15 < argNum s e 3) :
    forSixteen ((s.copyEntry e).arg 3) (takenState s e rest) k = refuse .badArgument (takenState s e rest) := by
  unfold forSixteen
  rw [dif_neg]
  rw [copyEntry_argWord s e 3 (by omega) (by omega)]
  show ¬argNum s e 3 < 16
  omega

/-- What takes the first message of a kind out of a channel. -/
theorem takeFirst_append {α : Type} (p : α → Bool) (pre : List α) (x : α) (post : List α) (hp : p x = true)
    (h : ∀ y ∈ pre, p y = false) : takeFirst p (pre ++ x :: post) = some (x, pre ++ post) := by
  induction pre with
  | nil => simp [takeFirst, hp]
  | cons y ys ih =>
    have hy := h y (by simp)
    have := ih fun z hz => h z (by simp [hz])
    simp [takeFirst, hy, this]

end Sys2Proof
end

