-- ==== Sys2Proof/Laws/Report.lean ====
section
/-!
SUPPORT. The blocks of a snapshot in the words of the statements (11 section 11.5): each block the model writes is the one laid
out in Safety, the free values being those drawn at the take.
-/

namespace Sys2Proof

open Sys2Proof.Machine

/-- The free values of a take (log 11). -/
def drawn (s : State) (k : Nat) : Word := Config.freeWord (s.draws + k)

/-- A free value kept to the bits of its field. -/
theorem freeBits_eq (s : State) (k : Nat) (bits : Word) : s.freeBits k bits = drawn s k &&& bits := rfl

/-- An instant in two words. -/
theorem instantShown_eq (t : Option Nat) : instantWords t = instantShown t := by cases t <;> rfl

/-- A mark at a place. -/
theorem markShown_eq (b : Bool) (w : Nat) : markShown b w = bit b * w := by cases b <;> simp [markShown, bit]

/-- The channel block. -/
theorem channelShown_eq (c : Channel) : c.block = channelShown c := by
  unfold Channel.block channelShown packed
  simp [mul_comm]

/-- A word kept to all its bits. -/
theorem allBits (w : Word) : w &&& 65535#16 = w := by
  have : (65535#16 : Word) = BitVec.allOnes 16 := by decide
  rw [this, BitVec.and_allOnes]

/-- The sea block. -/
theorem seaShown_eq (s : State) : s.seaBlock = seaShown s.level (drawn s) := by
  unfold State.seaBlock seaShown State.historyEnds packed
  simp only [freeBits_eq, markShown_eq, List.countP_eq_length_filter]
  cases h : s.level.history with
  | nil => simp [mul_comm, allBits]
  | cons a l =>
    have : (a :: l).getLast? = some ((a :: l).getLast (by simp)) := List.getLast?_eq_some_getLast (by simp)
    rw [this]
    simp [mul_comm]

/-- The TIDE section. -/
theorem tideShown_eq (t : Tide) : t.section = tideShown t := by
  unfold Tide.section tideShown packed
  simp only [markShown_eq]
  have e : (fun e : TideEvent => instantShown (some e.time) ++ [signedWord e.height, word e.kind.code]) =
      TideEvent.words := rfl
  have z : signedWord 0 = 0 := by decide
  rw [e]
  cases t.nextHigh <;> cases t.nextLow <;> simp [waterWords, instantShown_eq, mul_comm, z]

/-- The alarm block. -/
theorem alarmShown_eq (u : AlarmUnit) (a : Alarm) : a.block u.floor u.holdState = alarmShown u a := by
  unfold Alarm.block alarmShown packed
  have f : ∀ o, floorCode o = o.getD 7 := by intro o; cases o <;> rfl
  simp only [markShown_eq, instantShown_eq, f]
  unfold Alarm.word1 Alarm.word2 packed
  cases hk : a.kind <;> cases hm : a.mode <;> simp [AlarmKind.measured, mul_comm]

/-- The wash header block. -/
theorem washShown_eq (s : State) : s.washBlock = washShown s := by
  unfold State.washBlock washShown packed
  have q : ∀ i, queueByte s.wash.queue i =
      (s.wash.queue[i]?.map fun m => m.1.1 + markShown (m.2 == .urgent) 128).getD 255 := by
    intro i
    unfold queueByte
    rcases s.wash.queue[i]? with _ | ⟨n, _ | _⟩ <;> simp [markShown]
  simp only [q]
  simp [List.range_succ, markShown_eq, mul_comm]

/-- The word of a wash order. -/
theorem orderWord_eq (o : WashOrder) :
    packed [(15, 1), (0, o.entry.1), (8, o.turns)] = word (32768 + o.entry.1 + 256 * o.turns) := by
  unfold packed
  simp only [List.foldl, Nat.zero_add, Nat.one_mul, Nat.pow_zero, Nat.mul_one]
  rw [Nat.mul_comm o.turns]
  norm_num

/-- Word 7 of the screen block. -/
theorem washWord_eq (s : State) (n : ScreenNo) :
    s.washOrderWord n =
      ((s.screen n).washOrder.map fun o => word (32768 + o.entry.1 + 256 * o.turns)).getD
        (drawn s (18 + n.1) &&& 0x0F1F) := by
  unfold State.washOrderWord
  cases (s.screen n).washOrder
  · rfl
  · simp only [Option.map, Option.getD, orderWord_eq]

/-- The screen block. -/
theorem screenShown_eq (s : State) (n : ScreenNo) :
    s.screenBlock n = screenShown n (s.screen n) (drawn s) := by
  unfold State.screenBlock screenShown
  rw [washWord_eq]
  generalize ((s.screen n).washOrder.map fun o => word (32768 + o.entry.1 + 256 * o.turns)).getD
      (drawn s (18 + n.1) &&& 0x0F1F) = w
  simp only [packed, markShown_eq, instantShown_eq, List.foldl]
  simp [mul_comm]

/-- A roster in two words. -/
theorem rosterShown_eq (r : List PumpNo) : rosterWords r = rosterShown r := by
  have q : ∀ i, rosterNibble r i = (r[i]?.map fun p => p.1).getD 15 := by
    intro i
    unfold rosterNibble
    rcases r[i]? with _ | p <;> simp
  unfold rosterWords rosterShown packed
  simp only [q, List.foldl]
  refine congrArg₂ _ (congrArg _ ?_) (congrArg₂ _ (congrArg _ ?_) rfl) <;> omega

/-- The duty block. -/
theorem dutyShown_eq (s : State) : s.dutyBlock = dutyShown s.duty (drawn s) := by
  unfold State.dutyBlock dutyShown State.moveWords State.changeOrderWord Duty.savedWords
  have f : ∀ o, floorCode o = o.getD 7 := by intro o; cases o <;> rfl
  have c : s.duty.runningCount =
      s.duty.roster.countP fun p => (sel s.duty.view p).state == .running && !(sel s.duty.view p).stopSent := by
    rw [List.countP_eq_length_filter]; rfl
  simp only [c, freeBits_eq]
  cases s.duty.move <;> cases s.duty.changeOrder <;> cases s.duty.savedRoster <;>
    simp [markShown_eq, rosterShown_eq, f, packed, mul_comm] <;> rfl

/-- The pump block. -/
theorem pumpShown_eq (s : State) (p : PumpNo) : s.pumpBlock p = pumpShown p (s.pump p) := by
  unfold State.pumpBlock pumpShown packed
  simp [markShown_eq, mul_comm]

/-- The timer block. -/
theorem timerShown_eq (s : State) (t : TimerNo) :
    s.timerBlock t = timerShown t (s.timer t) (drawn s) := by
  unfold State.timerBlock timerShown State.timerWord
  simp only [freeBits_eq]
  cases (s.timer t).owner <;> simp [markShown_eq, packed, mul_comm, TimerOwner.code]
  congr 1; omega

end Sys2Proof
end

