-- ==== Sys2Proof/Laws/Tide.lean ====
section
/-!
SUPPORT. What LOAD_TIDE's checks leave: an edition as R68 and R71 give it; and which operations of the tide unit leave both
editions.
-/

namespace Sys2Proof

open Sys2Proof.Machine

/-! ## The checks of one event (R71) -/

/-- Checks 4 and 5 of an event that passes alone. -/
theorem checkAlone_ok {r : RawEvent} {e : TideEvent} (h : checkAlone r = .ok e) :
    e.time ≤ 52595999 ∧ -5000 ≤ e.height ∧ e.height ≤ 20000 := by
  unfold checkAlone lastInstant at h
  split at h
  · cases h
  · split at h
    · cases h
    · split at h
      · cases h
      · cases h; omega

/-- Checks 6 to 9 of an event that passes after another. -/
theorem checkPair_ok {p e f : TideEvent} (h : checkPair p e = .ok f) : f = e ∧ p.time < e.time ∧ EventFollows p e := by
  unfold checkPair at h
  split at h
  · cases h
  · split at h
    · cases h
    · split at h
      · cases h
      · split at h
        · cases h
        · cases h
          rename_i h6 h7 h8 h9
          refine ⟨rfl, by omega, fun k => h7 k.symm, by omega, by omega, fun k => ?_, fun k => ?_⟩
          · simpa [highAbove, k] using h9
          · have : p.kind = .low := by cases hp : p.kind <;> simp_all
            simpa [highAbove, this] using h9

/-- An event that passes all its checks. -/
theorem checkEvent_ok {prev : Option TideEvent} {r : RawEvent} {e : TideEvent} (h : checkEvent prev r = .ok e) :
    (e.time ≤ 52595999 ∧ -5000 ≤ e.height ∧ e.height ≤ 20000) ∧ ∀ p ∈ prev, p.time < e.time ∧ EventFollows p e := by
  unfold checkEvent at h
  split at h
  · cases h
  · rename_i f hf
    cases prev with
    | none => cases h; exact ⟨checkAlone_ok hf, by simp⟩
    | some p =>
      obtain ⟨rfl, hp⟩ := checkPair_ok h
      exact ⟨checkAlone_ok hf, by simpa using hp⟩

/-! ## The checks of a payload -/

/-- Events that pass, after `prev` if there is one: as many as the payload spells, each as checks 4 and 5 leave it, each later
than the one before it and as checks 6 to 9 leave the two. -/
theorem checkEvents_ok {prev : Option TideEvent} {i : Nat} {raw : List RawEvent} {l : List TideEvent}
    (h : checkEvents prev i raw = .ok l) :
    l.length = raw.length ∧ (∀ e ∈ l, e.time ≤ 52595999 ∧ -5000 ≤ e.height ∧ e.height ≤ 20000) ∧
      (prev.toList ++ l).IsChain fun a b => a.time < b.time ∧ EventFollows a b := by
  induction raw generalizing prev i l with
  | nil => cases h; cases prev <;> simp
  | cons r raw ih =>
    unfold checkEvents at h
    split at h
    · cases h
    · rename_i e he
      split at h
      · cases h
      · rename_i es hes
        cases h
        obtain ⟨hl, ha, hc⟩ := ih hes
        obtain ⟨h1, h2⟩ := checkEvent_ok he
        refine ⟨by simp [hl], by simpa using ⟨h1, ha⟩, ?_⟩
        cases prev with
        | none => simpa using hc
        | some p => simpa using ⟨h2 p rfl, hc⟩

/-- A payload of at most 64 events that pass is an edition (R68, R71). -/
theorem checkEvents_edition {raw : List RawEvent} {l : List TideEvent} (h : checkEvents none 0 raw = .ok l)
    (h64 : raw.length ≤ 64) : EditionOk l := by
  obtain ⟨hl, ha, hc⟩ := checkEvents_ok h
  have hc : l.IsChain fun a b => a.time < b.time ∧ EventFollows a b := hc
  have : Trans (α := TideEvent) (β := TideEvent) (γ := TideEvent) (fun a b => a.time < b.time) (fun a b => a.time < b.time)
      (fun a b => a.time < b.time) := ⟨fun h h' => Nat.lt_trans h h'⟩
  exact ⟨hl ▸ h64, List.isChain_iff_pairwise.mp (hc.imp fun _ _ h => h.1), ha, hc.imp fun _ _ h => h.2⟩

/-- How many events a payload spells. -/
theorem rawEvents_length : ∀ l : List Word, (rawEvents l).length = l.length / 4
  | a :: b :: c :: d :: rest => by simp [rawEvents, rawEvents_length rest]; omega
  | [_, _, _] => by simp [rawEvents]
  | [_, _] => by simp [rawEvents]
  | [_] => by simp [rawEvents]
  | [] => rfl

theorem editionOk_nil : EditionOk [] := ⟨by simp, .nil, by simp, .nil⟩

/-! ## What leaves the editions -/

/-- A recomputation leaves both editions, the live select and the copies (R75 to R78). -/
theorem recomputed_keeps (t : Tide) :
    t.recomputed.editionA = t.editionA ∧ t.recomputed.editionB = t.editionB ∧ t.recomputed.live = t.live ∧
      t.recomputed.now = t.now ∧ t.recomputed.suspect = t.suspect := by
  unfold Tide.recomputed
  dsimp only
  split
  · exact ⟨rfl, rfl, rfl, rfl, rfl⟩
  · split <;> exact ⟨rfl, rfl, rfl, rfl, rfl⟩

/-- A recomputation of the tide unit sets its record, and SUMMARY at most. -/
theorem recompute_eq (t : Tide) (s : State) :
    s.recompute t = { s with tide := t.recomputed, port := (s.setFlagIf (tideAlert t t.recomputed) .tide).port } := by
  unfold State.recompute State.setFlagIf
  split <;> rfl

end Sys2Proof
end

