-- ==== Sys2Proof/Laws/Time.lean ====
section
/-!
SUPPORT. A second at a pump and at a screen in closed form, and when the end of a watch, a clock or a restart delay is due.
-/

namespace Sys2Proof

open Sys2Proof.Machine

/-! ## A second (R159, R161, log 7, log 8) -/

/-- A watch that runs loses a second, down to 0. -/
theorem countSecond_eq (watch : Option Nat) : countSecond watch = watch.map fun r => r - 1 := by cases watch <;> rfl

/-- The run seconds and minutes of a pump change in RUNNING alone, its delay in STOPPED alone. -/
theorem pump_second_eq (x : Pump) :
    x.second =
      { x with
        proveWatch := x.proveWatch.map fun r => r - 1, lossWatch := x.lossWatch.map fun r => r - 1
        stoppingClock := x.stoppingClock.map fun r => r - 1
        runSeconds := if x.state = .running then (if x.runSeconds < 59 then x.runSeconds + 1 else 0) else x.runSeconds
        runMinutes :=
          if x.state = .running ∧ 59 ≤ x.runSeconds then min (x.runMinutes + 1) 4294967295 else x.runMinutes
        delayRemaining :=
          if x.state = .stopped ∧ 1 < x.delayRemaining then x.delayRemaining - 1 else x.delayRemaining
        delayDue := if x.state = .stopped then decide (x.delayRemaining = 1) else x.delayDue } := by
  unfold Pump.second Pump.delaySecond
  simp only [countSecond_eq]
  cases hx : x.state
  case running =>
    by_cases h : x.runSeconds < 59
    · have : ¬59 ≤ x.runSeconds := by omega
      simp [h, this, show x.runSeconds + 1 < 60 by omega]
    · have : 59 ≤ x.runSeconds := by omega
      simp [h, this, show ¬x.runSeconds + 1 < 60 by omega]
  all_goals simp
  rfl

/-- The watches of a screen lose a second. -/
theorem screen_second_eq (x : Screen) :
    x.second =
      { x with turnWatch := x.turnWatch.map fun r => r - 1, rundownClock := x.rundownClock.map fun r => r - 1 } := by
  unfold Screen.second
  simp only [countSecond_eq]

/-! ## Ends that are due -/

section due
variable (s : State)

/-- A restart delay ends only at a fitted STOPPED pump whose last second has passed. -/
theorem delayEnds_iff (p : PumpNo) :
    s.delayEnds p = true ↔ s.pumpFitted p = true ∧ (s.pump p).state = .stopped ∧ (s.pump p).delayRemaining = 1 ∧
      (s.pump p).delayDue = true := by
  simp [State.delayEnds, and_assoc]

/-- An end that is not due changes nothing. -/
theorem restartDelayEnd_idle (p : PumpNo) (h : s.delayEnds p = false) : s.restartDelayEnd p = s := by
  simp [State.restartDelayEnd, h]

/-- A turn watch that has seconds left, or has been restarted, does not expire (R119). -/
theorem turnWatchExpiry_idle (n : ScreenNo) (h : (s.screen n).turnWatch ≠ some 0) : s.turnWatchExpiry n = s := by
  unfold State.turnWatchExpiry State.whenRunning
  cases s.phase <;> simp [h]

/-- A turn watch with no second left stalls its screen in STARTING and WASHING (R124). -/
theorem turnWatchExpiry_due (n : ScreenNo) (hp : s.phase = .running) (hs : (s.screen n).state.holdsSlot = true)
    (h : (s.screen n).turnWatch = some 0) : s.turnWatchExpiry n = s.stallScreen n := by
  simp [State.turnWatchExpiry, State.whenRunning_running _ _ hp, hs, h]

/-- A rundown clock that has seconds left does not expire. -/
theorem rundownExpiry_idle (n : ScreenNo) (h : (s.screen n).rundownClock ≠ some 0) : s.rundownExpiry n = s := by
  unfold State.rundownExpiry State.whenRunning
  cases s.phase <;> simp [h]

/-- A prove watch that has seconds left does not expire. -/
theorem proveWatchExpiry_idle (p : PumpNo) (h : (s.pump p).proveWatch ≠ some 0) : s.proveWatchExpiry p = s := by
  unfold State.proveWatchExpiry State.whenRunning
  cases s.phase <;> simp [h]

/-- A loss watch that has seconds left does not expire. -/
theorem lossWatchExpiry_idle (p : PumpNo) (h : (s.pump p).lossWatch ≠ some 0) : s.lossWatchExpiry p = s := by
  unfold State.lossWatchExpiry State.whenRunning
  cases s.phase <;> simp [h]

/-- A stopping clock that has seconds left does not expire. -/
theorem stoppingClockExpiry_idle (p : PumpNo) (h : (s.pump p).stoppingClock ≠ some 0) : s.stoppingClockExpiry p = s := by
  unfold State.stoppingClockExpiry State.whenRunning
  cases s.phase <;> simp [h]

end due

/-! ## The edition-change event and the next swap (R74, log 28) -/

/-- With no edition-change event on its way a swap is taken as any order is. -/
theorem takeSwap_free (s : State) (h : s.wires.editionChanges = []) : s.takeSwap = s.takeImmediate .swapTide swapTideRule := by
  simp [State.takeSwap, State.swapWaits, h]

/-- With an empty spare edition it is taken too, and refused. -/
theorem takeSwap_empty (s : State) (h : s.tide.spareEdition = []) : s.takeSwap = s.takeImmediate .swapTide swapTideRule := by
  simp [State.takeSwap, State.swapWaits, h]

/-- Otherwise it waits. -/
theorem takeSwap_waits (s : State) (h : s.wires.editionChanges ≠ []) (h' : s.tide.spareEdition ≠ []) : s.takeSwap = s := by
  have : s.swapWaits = true := by simp [State.swapWaits, h, h']
  simp [State.takeSwap, this]

end Sys2Proof
end

