-- ==== Sys2Proof/WellFormed.lean ====
section
/-!
DEFINITION. When a command is well formed: its operands name what the row is about. The operand types already bound entries,
screens, pumps, timers, word offsets, addresses and raw codes.
-/

namespace Sys2Proof

/-- The offset of ENTRY_WORD_WRITE: words 1 to 31; word 0 is the hand (R3). -/
def entryOffsetOk (offset : Fin 32) : Bool := offset != 0

/-- The address of BULK_WRITE: the bulk area, 0x0400 to 0x3FFF (01 section 1.1). -/
def bulkAddrOk (addr : Addr) : Bool := 0x400 ≤ addr.toNat

/-- Whether a command is well formed. -/
def Instr.wellFormed : Instr → Bool
  | .entryWordWrite _ offset _ => entryOffsetOk offset
  | .bulkWrite addr _ => bulkAddrOk addr
  | .powerApplication _ _ | .coldStartUpCompletion | .supplyLoss | .resetNFall | .resetNRelease | .arrival _
  | .withdrawal _ | .giveBack _ | .cancelRequest _ | .handIllegal _ _ | .summaryWrite _ | .enableWrite _ | .faultWrite _
  | .readOnly _ | .unknownKind | .describe | .snapshot | .setTime | .setTimer | .stopTimer | .setChannel | .setSea
  | .loadTide | .swapTide | .setAlarm | .ackAlarm | .setScreen | .wash | .holdScreen | .releaseScreen | .resetScreen
  | .setWash | .setPump | .holdPump | .releasePump | .resetPump | .setDemand | .setRoster | .change | .lockDuty
  | .setChoke | .crystalConfirmed | .crystalFailure | .secondStep | .unitTick | .timerExpiry _ | .intervalRestart _
  | .minuteEventTide | .minuteEventLevel | .minuteEventAlarm | .timeSetEventTide | .timeSetEventLevel
  | .timeSetEventAlarm | .suspectChangeEventTide | .suspectChangeEventAlarm | .editionChangeEvent | .scanCompletion _
  | .seaReport | .rateReport | .differentialReport | .wReport | .wReportDuty | .hReport | .runningPumpReport | .grant
  | .washRequest _ | .turnEdge _ _ | .turnWatchExpiry _ | .rundownExpiry _ | .overloadEvent _ _ | .washCancel _
  | .chokeChangeEvent | .actionChangeEvent | .startRequest | .stopRequest | .proofEdge _ | .proofDrop _
  | .motorFaultEvent _ | .motorFaultClear _ | .proveWatchExpiry _ | .lossWatchExpiry _ | .stoppingClockExpiry _
  | .restartDelayEnd _ | .pumpChangeReport | .changeCancel | .rotationExpiry | .confirmPeriodRestart => true

end Sys2Proof
end

