-- ==== Sys2Proof/Tests/Slice0.lean ====
section
/-!
SUPPORT. The model's own tests: the well-formedness checks with a term each refuses; single commands on small states against
the spec's numbers; and, for every statement with hypotheses, states and operands that meet them (`met_…`).
-/

namespace Sys2Proof.Tests

-- One theorem after the other: each `decide +kernel` waits for all before it, and would hold a thread while it waits.
set_option Elab.async false

open Sys2Proof Sys2Proof.Machine

/-! ## Helpers -/

/-- The state that a command answers. -/
def after (c : Instr) (s : State) : State :=
  match exec c s with
  | .next t => t
  | .fault _ => s
  | .refused _ => s

/-- A running part, everything else as after the application of power, its units' gauges and W reports at GOOD. -/
def running : State :=
  { State.reset with phase := .running, pumps := { State.reset.pumps with lastW := { value := 3000, quality := .good } } }

/-- The part held, as the fall of RESET_N leaves a running one. -/
def held : State := after .resetNFall running

/-- The part without supply. -/
def dark : State := after .supplyLoss running

/-- Entry 0 POSTED at the head of the intake queue with a kind, the tag 0x55 and arguments from word 3 on. -/
def posted (kind : Nat) (args : List Nat) (s : State) : State :=
  { s with
    intake := [0], hands := upd s.hands 0 .posted
    mem := (kind :: 0x55 :: args).zipIdx.foldl (fun m a => Memory.write m (1 + a.2) (word a.1)) s.mem }

/-- Entry 0 with a hand. -/
def handed (h : Hand) (s : State) : State := { s with hands := upd s.hands 0 h }

def onScreen (n : ScreenNo) (f : Screen → Screen) (s : State) : State := withScreen s n (f (s.screen n)) s.wash
def onPump (p : PumpNo) (f : Pump → Pump) (s : State) : State :=
  { s with pumps := { s.pumps with records := upd s.pumps.records p (f (s.pump p)) } }
def onTimer (t : TimerNo) (f : Timer → Timer) (s : State) : State := s.setTimer t (f (s.timer t))
def onView (p : PumpNo) (v : PumpView) (s : State) : State := { s with duty := { s.duty with view := upd s.duty.view p v } }
def onAlarm (i : Fin 16) (f : Alarm → Alarm) (s : State) : State :=
  { s with alarm := { s.alarm with records := upd s.alarm.records i (f (sel s.alarm.records i)) } }
def onWires (f : Wires → Wires) (s : State) : State := { s with wires := f s.wires }
def onDuty (f : Duty → Duty) (s : State) : State := { s with duty := f s.duty }

/-- Screen `n` in service and in a state. -/
def working (n : ScreenNo) (st : ScreenState) (s : State) : State :=
  onScreen n (fun x => { x with service := .inService, state := st }) s

/-- Pump `p` in service, its delay run out, in a state. -/
def pumping (p : PumpNo) (st : PumpState) (s : State) : State :=
  onPump p (fun x => { x with service := .inService, state := st }) s

/-- Entry 0 held as the wash order of a screen. -/
def ordered (n : ScreenNo) (s : State) : State :=
  handed .taken (onScreen n (fun x => { x with washOrder := some { entry := 0, turns := 3, tag := 0x55 } }) s)

/-- Entry 0 held as the change order, P1 coming in for P0. -/
def changing (s : State) : State :=
  handed .taken (onDuty (fun d =>
    { d with move := .change 1 0 .order, changeOrder := some { entry := 0, tag := 0x55 }, savedRoster := some d.roster }) s)

/-- The result, and the answers from the first on, that entry 0 shows. -/
def result (s : State) : Word := s.entryWord 0 16
def answer (k : Nat) (s : State) : List Word := (List.range k).map fun i => s.entryWord 0 (17 + i)

/-! ## Well-formedness and decoding -/

theorem test_wellFormed_refuses_word_zero : Instr.wellFormed (.entryWordWrite 3 0 7) = false := by decide
theorem test_wellFormed_refuses_order_table_as_bulk : Instr.wellFormed (.bulkWrite 0x3FF 7) = false := by decide
theorem test_wellFormed_accepts :
    Instr.wellFormed (.entryWordWrite 31 31 7) = true ∧ Instr.wellFormed (.bulkWrite 0x400 7) = true ∧
      Instr.wellFormed (.bulkWrite 0x3FFF 7) = true ∧ Instr.wellFormed .describe = true := by decide
theorem test_no_row_gives_bits : decodeTableWord 16 0x1234 = none := by decide

/-! ## The machine -/

theorem test_step_takes_the_front_and_keeps_the_rest :
    ∃ t, step { running with pending := [.enableWrite 0x3FF, .secondStep] } = .next t ∧ t.port.enable = 0x3FF ∧
      t.pending = [.secondStep] := ⟨after (.enableWrite 0x3FF) { running with pending := [.secondStep] }, rfl, by decide +kernel⟩
theorem test_met_ExecAnswersNextAndKeepsQueue : ∀ a b, Instr.secondStep ≠ .powerApplication a b := nofun
theorem test_met_EmptyQueueCountsOneSourceCycle :
    (dark.pending = [] ∧ dark.phase = .unpowered) ∧ running.pending = [] ∧ running.phase ≠ .unpowered := by decide +kernel
theorem test_met_PartNotRunningIgnoresWritesAndTakes :
    runningOnly .describe = true ∧ runningOnly (.bulkWrite 0x400 1) = true ∧ State.reset.phase ≠ .running ∧
      held.phase ≠ .running ∧ dark.phase ≠ .running := by decide +kernel

/-! ## Invariants -/

theorem exchangeInv_running : ExchangeInv running := by unfold ExchangeInv; decide +kernel
theorem washInv_running : WashInv running := by unfold WashInv; decide +kernel
theorem availabilityInv_running : AvailabilityInv running := by unfold AvailabilityInv; decide +kernel
theorem clockInv_running : ClockInv running := by unfold ClockInv; decide +kernel
theorem timerInv_running : TimerInv running := by unfold TimerInv; decide +kernel
theorem rosterInv_running : RosterInv running := by
  refine ⟨by unfold IsRoster; decide +kernel, ?_, by decide +kernel, by decide +kernel⟩
  intro r h; cases h
theorem alarmInv_running : AlarmInv running := by unfold AlarmInv; decide +kernel
theorem levelInv_running : LevelInv running := by
  refine ⟨fun n => ?_, by decide +kernel⟩
  have : (sel running.level.channels n).quality = .unconfigured ∧ (sel running.level.channels n).filter.length = 0 := by
    revert n; decide +kernel
  rw [this.1, this.2]; rfl
theorem tideInv_running : TideInv running := by unfold TideInv EditionOk EventFollows; decide +kernel
theorem heldInv_held : HeldInv held := by unfold HeldInv; decide +kernel
theorem test_met_WashInvKept_fast :
    let s := onScreen 1 (fun x => { x with fast := true }) { working 1 .washing running with wash := { running.wash with slots := 1 } }
    s.phase = .running ∧ WashInv s ∧ s.fastLine 1 = true := by unfold WashInv; decide +kernel

theorem test_met_KeptInvariants :
    ∃ s t, step s = .next t ∧ s.phase = .running ∧ s.pending = [.secondStep] ∧ ExchangeInv s ∧ WashInv s ∧
      AvailabilityInv s ∧ RosterInv s ∧ ClockInv s ∧ TimerInv s ∧ AlarmInv s ∧ LevelInv s ∧ HeldInv s ∧ EditionInv s ∧ TideInv s :=
  ⟨{ running with pending := [.secondStep] }, after .secondStep running, rfl, rfl, rfl, exchangeInv_running,
    washInv_running, availabilityInv_running, rosterInv_running, clockInv_running, timerInv_running, alarmInv_running,
    levelInv_running, nofun, .inl rfl, tideInv_running⟩
theorem test_met_HeldInvKept :
    ∃ s t, step s = .next t ∧ s.phase = .held ∧ s.pending = [.turnEdge 0 true] ∧ HeldInv s :=
  ⟨{ held with pending := [.turnEdge 0 true] }, after (.turnEdge 0 true) held, rfl, rfl, rfl, heldInv_held⟩

/-! ## The port -/

theorem test_port_id : portId = 0xAAA1 := by decide
theorem test_bus_writes :
    busWrite true 0x3FFD 7 = .enableWrite 7 ∧ busWrite false 0x400 7 = .bulkWrite 0x400 7 ∧
      busWrite false 0x3FF 7 = .entryWordWrite 31 31 7 ∧ busWrite false 0x20 1 = .arrival 1 ∧
      busWrite false 0x20 3 = .handIllegal 1 3 := by decide +kernel
theorem test_fault_of_kind_none_reads_zero :
    ({ kind := .none, more := true, index := 5, offset := 9 } : ExchangeFault).toWord = 0 ∧
      ({ kind := .readOnly, more := true, index := 31, offset := 31 } : ExchangeFault).toWord = 0xE3FF := by decide
theorem test_interrupt_follows_summary_and_enable :
    (after (.enableWrite 2) (withFlag running .orderDone)).intLine = some true ∧
      (after (.summaryWrite 0) (after (.enableWrite 2) (withFlag running .orderDone))).intLine = some false := by
  decide +kernel
theorem test_second_refusal_sets_more :
    (after (.readOnly 0) (after (.handIllegal 5 9) running)).port.fault.toWord = 0x60A0 := by decide +kernel
theorem test_arrival_then_take_unknown_kind :
    let s := after .unknownKind (after (.arrival 0) running)
    s.hand 0 = .done ∧ result s = 1 ∧ s.intake = [] := by decide +kernel
theorem test_entry_word_and_bulk_writes :
    (after (.entryWordWrite 2 31 7) running).memWord 95 = 7 ∧ (after (.bulkWrite 0x3FFF 7) running).memWord 0x3FFF = 7 ∧
      (after (.entryWordWrite 0 1 7) (handed .taken running)).port.fault.toWord = 0x8001 := by decide +kernel
theorem test_withdrawal_give_back_and_cancel :
    (after (.withdrawal 0) (posted 1 [] running)).intake = [] ∧ (after (.giveBack 0) (handed .done running)).hand 0 = .free ∧
      (after (.cancelRequest 0) (ordered 2 running)).wires.washCancels = [(2, 0)] := by decide +kernel
theorem test_fault_write_clears :
    (after (.faultWrite 0) (after (.readOnly 1) running)).port.fault.toWord = 0 ∧
      (after (.faultWrite 4) (after (.readOnly 1) running)).port.fault.toWord = 0xC000 := by decide +kernel

theorem test_met_HostReadReturnsWordOrRegister :
    dark.phase = .unpowered ∧ State.reset.phase = .coldStart ∧ held.phase = .held ∧ running.phase = .running ∧
      (0x3FFC : Addr).toNat % 4 = 0 ∧ (1 : Addr).toNat % 4 = 1 ∧ (2 : Addr).toNat % 4 = 2 ∧ (0x3FFF : Addr).toNat % 4 = 3 ∧
      (0x3E0 : Addr).toNat = 32 * (31 : Entry).1 ∧ 1024 ≤ (0x400 : Addr).toNat ∧ (0x3FF : Addr).toNat % 32 ≠ 0 := by
  decide +kernel
theorem test_met_IntFollowsSummaryAndEnable : running.phase = .running := by decide
theorem test_met_HandTableKeepsDiscardsAndRefuses :
    running.phase = .running ∧ 5 ≤ (5 : Word).toNat ∧ 5 ≤ (0xFFFF : Word).toNat ∧
      (∀ h ∈ [Hand.free, .posted, .taken, .done, .cancel],
        (handed h running).phase = .running ∧ (handed h running).hand 0 = h) := by decide +kernel
theorem test_met_OrderEventsAtTheHand :
    running.hand 0 = .free ∧ (posted 1 [] running).hand 0 = .posted ∧ (handed .done running).hand 0 = .done ∧
      (ordered 5 running).hand 0 = .taken ∧ ((ordered 5 running).screen 5).washOrder.map (fun o => o.entry) = some 0 ∧
      (changing running).hand 0 = .taken ∧ (changing running).duty.changeOrder.map (fun o => o.entry) = some 0 := by
  decide +kernel
theorem exchangeInv_ordered : ExchangeInv (ordered 5 running) := by unfold ExchangeInv; decide +kernel
theorem exchangeInv_changing : ExchangeInv (changing running) := by unfold ExchangeInv; decide +kernel
theorem test_met_HostWritesWordsAndRegisters :
    running.phase = .running ∧ Memory.wf running.mem = true ∧ (1 : Fin 32) ≠ 0 ∧ (31 : Fin 32) ≠ 0 ∧
      (∀ h ∈ [Hand.free, .posted, .taken, .done, .cancel], (handed h running).hand 0 = h) ∧ 0x400 ≤ (0x400 : Addr).toNat ∧
      0x400 ≤ (0x3FFF : Addr).toNat ∧ (1 : Word) ≠ 0 := by decide +kernel
theorem test_met_RefusedWritesRecordFirstFault :
    running.phase = .running ∧ 5 ≤ (5 : Word).toNat ∧ (31 : Fin 32) ≠ 0 ∧ (handed .taken running).hand 0 = .taken ∧
      (handed .free running).hand 0 = .free ∧ ¬5 ≤ (3 : Word).toNat ∧
      running.port.fault.kind = .none ∧ (after (.readOnly 1) running).port.fault.kind ≠ .none ∧ Flag.started ≠ .exchange ∧
      0x400 ≤ (0x3FFF : Addr).toNat ∧ (handed .cancel running).hand 0 = .cancel ∧ (handed .posted running).hand 0 = .posted ∧
      (handed .done running).hand 0 = .done := by decide +kernel

/-! ## Orders -/

theorem test_describe_part : let s := after .describe (posted 1 [1] running)
    result s = 0 ∧ answer 6 s = [10, 340, 1, 32, 15360, 0] ∧ s.entryWord 0 2 = 0x55 ∧ s.flag .orderDone = true := by
  decide +kernel
theorem test_snapshot_header : let s := after .snapshot (posted 2 [0, 0x400, 8] running)
    result s = 0 ∧ answer 1 s = [8] ∧ (List.range 9).map (fun i => s.memWord (0x400 + i)) = [0, 8, 0, 0, 1, 0x606, 0, 1, 0] := by
  decide +kernel
theorem test_snapshot_room_short : let s := after .snapshot (posted 2 [63, 0x400, 8] running)
    result s = 7 ∧ answer 1 s = [448] := by decide +kernel

/-- The SCREENS section of a part with one screen: the header's 8 words, the wash header's 12, the screen's 12. -/
theorem test_snapshot_screen_block :
    let s := onScreen 0 (fun x => { x with
        choked := true, fast := true, causes := { CauseSet.empty with differential := true, order := true }, turnsDone := 1
        turnsWanted := 3, washOrder := some { entry := 31, turns := 3, tag := 9 }, washCount := 7, lastWashEnd := some 0x10002
        lastDp := { value := -2, valid := true } })
      { working 0 .washing running with fittedScreens := 1, wash := { running.wash with slots := 1 } }
    (s.snapshotWords 8).drop 20 =
      [0x0930, 0x000A, 0x0213, 150, 400, 240, 30, 0x831F, 7, 2, 1, 0xFFFE] ∧
    ((s.snapshotWords 8).drop 8).take 4 = [1, 150, 15, 0x0021 + 16 * word (bit running.wash.pressurised)] := by decide +kernel

theorem test_met_CompletionWritesEntry :
    Memory.wf (posted 1 [1] running).mem = true ∧ 14 < 15 ∧ (3 ≤ 3 ∧ 3 ≤ 15) ∧ (3 ≤ 15 ∧ 15 ≤ 15) ∧
      ∀ o, o < 32 → 0x400 ≠ 32 * (0 : Entry).1 + o := ⟨by decide +kernel, by omega, by omega, by omega, fun o h => by omega⟩
theorem test_met_CommonChecksRefuse_kind :
    AtHead (posted 0 [] running) 0 [] 0 ∧ AtHead (posted 0x1B [] running) 0 [] 0x1B ∧
      AtHead (posted 0xFFFF [] running) 0 [] 0xFFFF := by unfold AtHead; decide +kernel
/-- The first argument of the orders on a screen and a pump above 5, and between the fitted count and 5. -/
theorem test_met_CommonChecksRefuse_screen_and_pump :
    let s := { running with fittedScreens := 5, fittedPumps := 5 }
    (∀ c ∈ screenOrders ++ pumpOrders, ∀ a ∈ [6, 65535, 5], AtHead (posted c.2 [a] s) 0 [] c.2 ∧
      argNum (posted c.2 [a] s) 0 3 = a) ∧ 5 < 6 ∧ s.fittedScreens ≤ 5 ∧ s.fittedPumps ≤ 5 := by
  unfold AtHead; decide +kernel
theorem test_met_CommonChecksRefuse_sixteen :
    ∀ c ∈ sixteenOrders, ∀ a ∈ [16, 65535], AtHead (posted c.2 [a] running) 0 [] c.2 ∧
      15 < argNum (posted c.2 [a] running) 0 3 := by unfold AtHead; decide +kernel

def event (kind : TideKind) (time : Nat) (height : Int) : TideEvent := { kind := kind, time := time, height := height }

/-- The six events of edition B of the second worked sequence. -/
def editionB : List TideEvent :=
  [event .low 16409000 600, event .high 16409372 9200, event .low 16409748 450, event .high 16410122 9400,
   event .low 16410497 380, event .high 16410870 9500]

/-- The worked edition is one that LOAD_TIDE's checks leave; one event alone is too, two HIGHs or two at once are not. -/
theorem test_met_KeptInvariants_edition :
    (∀ l ∈ [editionB, [event .high 52595999 20000], [event .low 0 0, event .high 120 1]], EditionOk l) ∧
      ∀ l ∈ [[event .low 0 0, event .high 0 1], [event .high 0 2, event .high 200 1], [event .low 0 0, event .high 121 0]],
        ¬EditionOk l := by unfold EditionOk EventFollows; decide +kernel

/-- A running part with an edition live. -/
def tided (l : List TideEvent) (s : State) : State := { s with tide := { s.tide with editionA := l } }

theorem test_met_DescribeAnswersByLeaf :
    (∀ leaf ∈ [0, 1, 2, 3, 4, 5, 65535], ∀ sub ∈ [0, 1, 63, 64, 65535],
      AtHead (posted 1 [leaf, sub] running) 0 [] 1 ∧ argNum (posted 1 [leaf, sub] running) 0 3 = leaf ∧
        argNum (posted 1 [leaf, sub] running) 0 4 = sub) ∧
      running.tide.liveEdition = [] ∧ (tided editionB running).tide.liveEdition.head? = editionB.head? ∧
      (tided editionB running).tide.liveEdition.getLast? = some (event .high 16410870 9500) := by
  unfold AtHead; decide +kernel
theorem test_met_SnapshotWritesStateAtTake :
    (∀ a ∈ [[63, 0x400, 448], [63, 0x400, 447], [63, 0x3FF, 448], [63, 0x3FFF, 2], [64, 0x400, 448], [0, 0x3FF8, 8]],
      AtHead (posted 2 a running) 0 [] 2 ∧ Memory.wf (posted 2 a running).mem = true ∧ argNum (posted 2 a running) 0 3 = a[0]! ∧
        argNum (posted 2 a running) 0 4 = a[1]! ∧ argNum (posted 2 a running) 0 5 = a[2]!) ∧
      running.fittedScreens ≤ 6 ∧ running.fittedPumps ≤ 6 ∧ snapshotWordCount running 63 = 448 ∧
      snapshotWordCount running 0 = 8 ∧ (63 : Word).toNat < 64 := by unfold AtHead; decide +kernel

/-! ## Power and RESET_N -/

theorem test_straps : let s := after (.powerApplication 0 7) running
    s.fittedScreens = 1 ∧ s.fittedPumps = 6 ∧ s.phase = .coldStart := by decide +kernel
theorem test_start_up_sets_started_and_delays : let s := after .coldStartUpCompletion State.reset
    s.phase = .running ∧ s.port.summary = 1 ∧ (s.pump 5).delayRemaining = 300 := by decide +kernel
theorem test_reset_sweeps_a_posted_entry : let s := after .resetNRelease (after .resetNFall (posted 1 [] running))
    s.hand 0 = .done ∧ result s = 12 ∧ s.port.summary = 3 ∧ s.intake = [] := by decide +kernel

/-- A start-up that ends with RESET_N low leaves what the fall of RESET_N in a running part leaves. -/
theorem test_start_up_into_the_hold : let s := after .resetNFall State.reset
    after .coldStartUpCompletion s = after .resetNFall { s with phase := .running } := by decide +kernel
theorem test_met_PowerCommands :
    State.reset.phase = .coldStart ∧ State.reset.resetLow = false ∧ (after .resetNFall State.reset).phase = .coldStart ∧
      (after .resetNFall State.reset).resetLow = true := by decide +kernel
theorem test_met_ResetFallHoldsPart :
    let s := { changing running with fittedScreens := 5, fittedPumps := 5 }
    s.phase = .running ∧ (sel s.level.channels 0).quality = .unconfigured ∧ s.screenFitted 5 = false ∧
      s.screenFitted 4 = true ∧ s.pumpFitted 5 = false ∧ s.pumpFitted 4 = true ∧ running.duty.savedRoster = none ∧
      s.duty.savedRoster = some s.duty.roster := by decide +kernel
theorem test_met_ResetReleaseSweepsAndRestarts_before_the_hold :
    running.phase ≠ .held ∧ State.reset.phase ≠ .held ∧ dark.phase ≠ .held := by decide +kernel
/-- One entry of each hand in the hold: 0 TAKEN by S5, 1 POSTED, 2 CANCEL held by the duty unit, 3 DONE, the others FREE. -/
def sweepable : State :=
  let s := ordered 5 running
  let t := { s with
    hands := upd (upd (upd s.hands 1 .posted) 2 .cancel) 3 .done, intake := [1]
    time := { s.time with failedInHold := true, suspectAtFall := false }
    duty := { s.duty with move := .change 1 0 .order, changeOrder := some { entry := 2, tag := 7 } } }
  { after .resetNFall t with time := t.time }
theorem test_met_ResetReleaseSweepsAndRestarts :
    sweepable.phase = .held ∧ ExchangeInv sweepable ∧ sweepable.hand 1 = .posted ∧ sweepable.hand 3 = .done ∧
      sweepable.hand 4 = .free ∧ sweepable.hand 2 ≠ .done ∧ (sweepable.screen 5).washOrder.isSome = true ∧
      sweepable.duty.changeOrder.isSome = true ∧ sweepable.time.failedInHold = true ∧ sweepable.pumpFitted 5 = true ∧
      sweepable.duty.limit = runningLimit sweepable.duty ∧ { sweepable with fittedPumps := 5 }.pumpFitted 5 = false ∧
      Flag.exchange ∉ [Flag.started, .orderDone, .timebase, .tide] := by
  unfold ExchangeInv; decide +kernel
theorem test_met_ResetReleaseSweepsAndRestarts_alarms :
    let s := onAlarm 3 (fun a => { a with enabled := true, kind := .tideLead, which := .high, lead := 60 }) held
    s.phase = .held ∧ (sel s.alarm.records 3).enabled = true ∧ (sel s.alarm.records 3).kind = .tideLead ∧
      ¬((sel s.alarm.records 4).enabled = true ∧ (sel s.alarm.records 4).kind = .tideLead) := by decide +kernel

/-! ## Time base, clock and timer bank -/

/-- A running part at a date and time. -/
def clocked (y mo d h mi sec : Nat) : State :=
  running.setClock
    { year := y, month := mo, day := d, weekday := (5 + daysSince2000 y mo d) % 7, hour := h, minute := mi, second := sec
      minuteCount := 1440 * daysSince2000 y mo d + 60 * h + mi, suspect := false }

def crystal (s : State) : State := { s with time := { s.time with base := .crystal } }

theorem test_leap_day : (after .secondStep (clocked 2000 2 28 23 59 59)).time.clock = (clocked 2000 2 29 0 0 0).time.clock := by decide +kernel
theorem test_century_end : let s := after .secondStep (clocked 2099 12 31 23 59 59)
    s.time.clock = Clock.cold ∧ s.wires.toTide = [.timeSet 52595999 0 true, .suspectChange true] := by decide +kernel
theorem test_set_time : let s := after .setTime (posted 3 [2031, 3, 14, 6, 25, 0] running)
    result s = 0 ∧ s.time.clock.minuteCount = 16409185 ∧ s.time.clock.suspect = false := by decide +kernel
theorem test_set_time_refuses_29_february : result (after .setTime (posted 3 [2031, 2, 29, 6, 25, 0] running)) = 2 := by
  decide +kernel
theorem test_crystal_failure : let s := after .crystalFailure (crystal (clocked 2031 3 14 6 25 0))
    s.time.base = .rcFallback ∧ s.time.clock.suspect = true ∧ s.flag .timebase = true := by decide +kernel
theorem test_crystal_confirmed : (after .crystalConfirmed running).time.base = .crystal ∧
    (after .confirmPeriodRestart { running with time := { running.time with confirm := 9 } }).time.confirm = 0 := by
  decide +kernel
theorem test_set_timer : let s := after .setTimer (posted 4 [2, 1, 4, 1, 2, 1] running)
    result s = 0 ∧
      s.timer 2 = { owner := .screen 4, unit := .minute, preset := 2, count := 2, running := true, expiries := 0 } := by
  decide +kernel
theorem test_tick_at_one_then_expiry :
    let s := after (.timerExpiry 2) (after .unitTick (onWires (fun w => { w with ticks := [.minute] })
      (onTimer 2 (fun x => { x with owner := .screen 4, unit := .minute, preset := 7, running := true }) running)))
    (s.timer 2).expiries = 1 ∧ (s.timer 2).count = 7 ∧ s.wires.washRequests = [(4, .interval)] := by decide +kernel
theorem test_interval_restart : let s := after (.intervalRestart 4) (onWires (fun w => { w with intervalRestarts := [4] })
      (onTimer 2 (fun x => { x with owner := .screen 4, preset := 9, count := 4, running := true }) running))
    (s.timer 2).count = 9 ∧ s.wires.intervalRestarts = [] := by decide +kernel
theorem test_stop_timer : let s := after .stopTimer (posted 5 [2]
      (onTimer 2 (fun x => { x with preset := 9, count := 4, running := true }) running))
    answer 2 s = [4, 0] ∧ (s.timer 2).count = 9 ∧ (s.timer 2).running = false := by decide +kernel

theorem test_met_TimeBaseEvents :
    running.phase ≠ .unpowered ∧ running.time.base ≠ .crystal ∧ (crystal running).time.base = .crystal ∧
      (crystal running).phase = .running ∧ (crystal running).time.clock.suspect = true ∧
      (crystal (clocked 2031 3 14 6 25 0)).time.clock.suspect = false ∧ (crystal State.reset).phase = .coldStart ∧
      (crystal held).phase = .held := by decide +kernel
/-- A clock at each boundary of the carries, and at the century end. -/
theorem test_met_SecondStepCarriesSendsAndCounts_clocks :
    ∀ s ∈ [clocked 2031 3 14 6 25 58, clocked 2031 3 14 6 58 59, clocked 2031 3 14 22 59 59, clocked 2000 2 28 23 59 59,
      clocked 2001 2 28 23 59 59, clocked 2098 12 31 23 59 59, clocked 2099 12 31 23 59 59],
      ClockInv s ∧ s.phase = .running := by unfold ClockInv; decide +kernel
theorem test_met_SecondStepCarriesSendsAndCounts_phases :
    ∀ s ∈ [dark, State.reset, held, running], ClockInv s ∧ (s.phase = .unpowered ∨ s.phase = .coldStart ∨ s.phase = .held ∨
      s.phase = .running) := by unfold ClockInv; decide +kernel
/-- A watch counts to 0 and stays there until its expiry; a delay of 1 becomes due in the running part and in the hold. -/
theorem test_second_at_watches_and_delays :
    (let s := after .secondStep (onScreen 0 (fun x => { x with turnWatch := some 1, rundownClock := some 0 })
       (onPump 1 (fun x => { x with proveWatch := some 5, lossWatch := none, delayRemaining := 1 }) running))
     (s.screen 0).turnWatch = some 0 ∧ (s.screen 0).rundownClock = some 0 ∧ (s.pump 1).proveWatch = some 4 ∧
       (s.pump 1).lossWatch = none ∧ (s.pump 1).delayRemaining = 1 ∧ (s.pump 1).delayDue = true) ∧
    (let s := after .secondStep (onPump 2 (fun x => { x with delayRemaining := 2 }) held)
     (s.pump 2).delayRemaining = 1 ∧ (s.pump 2).delayDue = false ∧
       (after (.restartDelayEnd 2) s) = s ∧ ((after (.restartDelayEnd 2) (after .secondStep s)).pump 2).delayRemaining = 0) := by
  decide +kernel
theorem test_met_SetTimeLoadsClock :
    (∀ a ∈ [[2000, 1, 1, 0, 0, 0], [2099, 12, 31, 23, 59, 59], [2004, 2, 29, 6, 0, 0]],
      let s := posted 3 a running
      AtHead s 0 [] 3 ∧
        dateInRange (argNum s 0 3) (argNum s 0 4) (argNum s 0 5) (argNum s 0 6) (argNum s 0 7) (argNum s 0 8)) ∧
    ∀ a ∈ [[1999, 1, 1, 0, 0, 0], [2100, 1, 1, 0, 0, 0], [2001, 2, 29, 0, 0, 0], [2001, 4, 30, 24, 0, 0]],
      let s := posted 3 a running
      AtHead s 0 [] 3 ∧
        ¬dateInRange (argNum s 0 3) (argNum s 0 4) (argNum s 0 5) (argNum s 0 6) (argNum s 0 7) (argNum s 0 8) := by
  unfold AtHead dateInRange; decide +kernel
/-- Timer, owner kind, owner number, unit, preset, start. -/
theorem test_met_SetTimerRewritesOrChangesPreset :
    (∀ a ∈ [[15, 3, 0, 3, 4095, 1], [15, 1, 5, 0, 1, 0], [15, 0, 0, 4, 1, 1], [15, 1, 6, 0, 1, 1], [15, 2, 0, 0, 1, 1]],
      let s := posted 4 a running
      AtHead s 0 [] 4 ∧ argNum s 0 3 = (15 : TimerNo).1 ∧ argNum s 0 4 ≤ 3 ∧ argNum s 0 8 ≤ 1 ∧ 1 ≤ argNum s 0 7 ∧
        argNum s 0 7 ≤ 4095 ∧ argNum s 0 4 = a[1]! ∧ argNum s 0 5 = a[2]! ∧ argNum s 0 6 = a[3]! ∧
          argNum s 0 8 = a[5]! ∧ (s.timer 15).running = false) ∧
    (∀ a ∈ [[15, 4, 0, 0, 1, 0], [15, 0, 0, 0, 1, 2], [15, 0, 0, 0, 0, 0], [15, 0, 0, 0, 4096, 0]],
      let s := posted 4 a running
      AtHead s 0 [] 4 ∧ ¬(argNum s 0 4 ≤ 3 ∧ argNum s 0 8 ≤ 1 ∧ 1 ≤ argNum s 0 7 ∧ argNum s 0 7 ≤ 4095)) ∧
    (let s := posted 4 [15, 2, 0, 0, 1, 0] (onTimer 3 (fun x => { x with owner := .rotation })
      (onTimer 15 (fun x => { x with running := true }) running))
     AtHead s 0 [] 4 ∧ (s.timer 15).running = true ∧ argNum s 0 8 = 0 ∧ (s.timer 3).owner = .rotation) ∧
    { running with fittedScreens := 5 }.fittedScreens ≤ 5 ∧ running.screenFitted 5 = true := by
  unfold AtHead; decide +kernel
theorem test_met_StopTimerReloadsCount :
    (∀ a ∈ [0, 15, 16], AtHead (posted 5 [a] running) 0 [] 5 ∧ argNum (posted 5 [a] running) 0 3 = a) ∧
      (running.timer 15).running = false ∧ (running.timer 15).count = (running.timer 15).preset := by
  unfold AtHead; decide +kernel
theorem test_met_TimerBankEvents :
    ∀ o ∈ [TimerOwner.none, .screen 5, .rotation, .report], ∀ c ∈ [1, 2, 4095],
      let s := onWires (fun w => { w with ticks := [.hour], dueSteps := [(14, .hour), (15, .hour)], intervalRestarts := [4, 5] })
        (onTimer 15 (fun x => { x with owner := o, unit := .hour, preset := 4095, count := c, running := true }) running)
      TimerInv s ∧ s.phase = .running ∧ s.wires.ticks = .hour :: [] ∧ s.wires.dueSteps = [(14, .hour)] ++ (15, .hour) :: [] ∧
        (∀ d ∈ [((14 : TimerNo), TickUnit.hour)], d.1 ≠ 15) ∧ (s.timer 15).running = true ∧ (s.timer 15).owner = o ∧
        ¬((s.timer 14).running = true ∧ (s.timer 14).unit = .hour) ∧ (s.timer 15).count = c ∧
        s.wires.intervalRestarts = [4] ++ 5 :: [] ∧ 5 ∉ [(4 : ScreenNo)] ∧ (∀ t, (s.timer t).owner ≠ .screen 4) := by
  unfold TimerInv; decide +kernel

/-! ## Level board -/

/-- A configured channel in a quality with a filter, on the gauge scaling of the first worked numbers of 03. -/
def channel (n : Fin 16) (q : Quality) (filter : List Nat) (value : Int) (s : State) : State :=
  { s with level := { s.level with
      channels := upd s.level.channels n
        { sel s.level.channels n with
          rawLow := 819, rawHigh := 4095, engLow := -2000, engHigh := 14000, faultLow := 600, faultHigh := 4090
          quality := q, filter := filter, value := value } } }

/-- Sixteen raw codes, all the same. -/
def codes (c : RawCode) : Vector RawCode 16 := tab fun _ => c

theorem test_channel_value_from_four_codes : let s := after (.scanCompletion (codes 2003)) (channel 0 .filling [2000, 2001, 2002] 0 running)
    (sel s.level.channels 0).quality = .good ∧ (sel s.level.channels 0).value = 3775 ∧ s.level.seaQuality = .single ∧
      s.level.seaValue = 3775 ∧ s.flag .sea = true := by decide +kernel
theorem test_channel_broken_and_over :
    (sel (after (.scanCompletion (codes 599)) (channel 0 .good [1, 2, 3, 4] 7 running)).level.channels 0).quality = .broken ∧
      (sel (after (.scanCompletion (codes 4091)) (channel 0 .good [1, 2, 3, 4] 7 running)).level.channels 0).quality = .over ∧
      (sel (after (.scanCompletion (codes 600)) (channel 0 .good [1, 2, 3, 4] 7 running)).level.channels 0).filter =
        [2, 3, 4, 600] := by decide +kernel
theorem test_set_channel : let s := after .setChannel (posted 6 [0, 819, 4095, 63536, 14000, 600, 4090, 0] running)
    result s = 0 ∧ (sel s.level.channels 0).engLow = -2000 ∧ (sel s.level.channels 0).quality = .filling := by decide +kernel
theorem test_set_sea : let s := after .setSea (posted 7 [1000] running)
    s.level.band = 1000 ∧ answer 1 s = [100] := by decide +kernel
theorem test_minute_and_time_set_events_at_the_level_unit :
    let m : MinuteEvent := { count := 1, hour := 0, minute := 1, weekday := 5, day := 1, suspect := false }
    (after .minuteEventLevel (onWires (fun w => { w with toLevel := [.minute m] })
      { running with level := { running.level with history := List.replicate 11 (100, .good), seaValue := 250, seaQuality := .good } })).wires.rateReports
        = [(150, true)] ∧
      (after .timeSetEventLevel (onWires (fun w => { w with toLevel := [.timeSet 0 1 false] })
        { running with level := { running.level with history := [(1, .good)] } })).level.history = [] := by decide +kernel

theorem test_met_SetChannelAndSetSea :
    (∀ a ∈ [[0, 4094, 4095, 0, 1, 0, 4095, 255], [15, 0, 1, 0, 2000, 4094, 4095, 0], [15, 0, 1, 0, 2001, 0, 1, 0],
        [14, 1, 1, 0, 1, 0, 1, 0], [14, 0, 1, 5, 5, 0, 1, 0], [14, 0, 1, 0, 1, 0, 4096, 0], [14, 0, 1, 0, 1, 0, 1, 256]],
      AtHead (posted 6 a running) 0 [] 6 ∧ argNum (posted 6 a running) 0 3 = a[0]! ∧ argNum (posted 6 a running) 0 5 = a[2]! ∧
        argNum (posted 6 a running) 0 7 = a[4]! ∧ argNum (posted 6 a running) 0 10 = a[7]!) ∧
      ∀ a ∈ [0, 1000, 1001, 65535], AtHead (posted 7 [a] running) 0 [] 7 ∧ argNum (posted 7 [a] running) 0 3 = a := by
  unfold AtHead; decide +kernel
theorem test_met_ScanHandlesEachChannel :
    let s := channel 1 .good [1, 2, 3, 4] 0 running
    s.phase = .running ∧ (sel s.level.channels 0).quality = .unconfigured ∧ (sel s.level.channels 1).quality ≠ .unconfigured ∧
      (s.level.scanned = false) := by decide +kernel
/-- The gauges after a scan, by each row of R57 (code 2000 is GOOD, 0 is BROKEN; the band is 100). -/
theorem test_met_ScanRecordsSeaAndReports :
    let gauges (a b : List Nat) := after (.scanCompletion (codes 2000)) (channel 0 .good a 0 (channel 1 .good b 0 running))
    let near := gauges [2000, 2000, 2000, 2000] [2000, 2000, 2000, 2000]
    let far := gauges [2000, 2000, 2000, 2000] [2100, 2100, 2100, 2100]
    let predicted := after (.scanCompletion (codes 2000)) (channel 0 .good [2000, 2000, 2000, 2000] 0
      (channel 1 .good [2100, 2100, 2100, 2100] 0 { running with tide := { running.tide with valid := true, level := 9000 } }))
    let one := after (.scanCompletion (codes 2000)) (channel 0 .good [1, 2, 3, 4] 0 running)
    let other := after (.scanCompletion (codes 2000)) (channel 1 .good [1, 2, 3, 4] 0 running)
    running.phase = .running ∧
      ((sel near.level.channels 0).value - (sel near.level.channels 1).value).natAbs ≤ 100 ∧
      100 < ((sel far.level.channels 0).value - (sel far.level.channels 1).value).natAbs ∧ far.tide.valid = false ∧
      predicted.tide.valid = true ∧ predicted.level.gauge = .g1 ∧
      100 < ((sel predicted.level.channels 0).value - (sel predicted.level.channels 1).value).natAbs ∧
      (sel one.level.channels 0).quality = .good ∧ (sel one.level.channels 1).quality ≠ .good ∧
      (sel other.level.channels 1).quality = .good ∧ (sel other.level.channels 0).quality ≠ .good ∧
      one.level.seaQuality ≠ running.level.seaQuality ∧
      (after (.scanCompletion (codes 0)) running).level.seaQuality = running.level.seaQuality := by decide +kernel
theorem test_met_MinuteHistoryAndRate :
    let entry : Int × SeaQuality := (250, .good)
    let m : MinuteEvent := { count := 1, hour := 0, minute := 1, weekday := 5, day := 1, suspect := false }
    let s (k : Nat) := onWires (fun w => { w with toLevel := [.minute m] })
      { running with level := { running.level with
          history := List.replicate k (100, .good), seaValue := 250, seaQuality := .good } }
    (∀ k ∈ [0, 9, 10, 11], (s k).phase = .running ∧ (s k).wires.toLevel = .minute m :: []) ∧
      (s 9).level.history.length < 11 ∧ (s 10).level.history ++ [entry] ≠ [] ∧
      ((s 10).level.history ++ [entry]).length = 11 ∧
      (∀ x ∈ (s 10).level.history ++ [entry], x.2 ≠ .lost) ∧
      ((s 11).level.history.drop 1 ++ [entry]).length = 11 ∧
      (onWires (fun w => { w with toLevel := [.timeSet 0 1 false] }) running).wires.toLevel = .timeSet 0 1 false :: [] := by
  decide +kernel

/-! ## Tide table -/

/-- A tide unit with an edition live at an instant, its mark clear. -/
def tideAt (l : List TideEvent) (now : Nat) : Tide := { Tide.cold with editionA := l, now := now, suspect := false }

theorem test_predictions_of_the_worked_sequences :
    (tideAt editionB 16409185).recomputed.level = 4865 ∧ (tideAt editionB 16409260).recomputed.level = 7327 ∧
      (tideAt editionB 16409261).recomputed.level = 7350 := by decide +kernel
theorem test_prediction_from_low_to_high :
    (tideAt [event .low 1000 500, event .high 1372 8500] 1093).recomputed.level = 1833 ∧
      (tideAt [event .low 1000 500, event .high 1372 8500] 1000).recomputed.level = 500 ∧
      (tideAt [event .low 1000 500, event .high 1372 8500] 1372).recomputed.valid = false := by decide +kernel

/-- Events as a payload of four words each from word 0x2000 on. -/
def loaded (l : List TideEvent) (s : State) : State :=
  { s with
    mem := (l.flatMap fun e => [word e.time, word (e.time / 65536), signedWord e.height, word e.kind.code]).zipIdx.foldl
      (fun m a => Memory.write m (0x2000 + a.2) a.1) s.mem }

theorem test_load_tide : let s := after .loadTide (posted 8 [0x2000, 6] (loaded editionB running))
    result s = 0 ∧ answer 3 s = [6, 1, 0] ∧ s.tide.editionB = editionB := by decide +kernel
theorem test_load_tide_refuses_an_event : let s := after .loadTide (posted 8 [0x2000, 6] (loaded (editionB.set 3 (event .high 16410922 9400)) running))
    result s = 2 ∧ answer 2 s = [3, 8] ∧ s.tide.editionB = [] := by decide +kernel
theorem test_swap_tide :
    result (after .swapTide (posted 9 [] running)) = 5 ∧
      (let s := after .swapTide (posted 9 [] { running with tide := { (tideAt [] 16409185) with editionB := editionB } })
       result s = 0 ∧ answer 3 s = [1, 6, 1] ∧ s.tide.level = 4865 ∧ s.wires.editionChanges = [.b]) := by decide +kernel
/-- A second swap waits for the first one's edition-change event (R74). -/
theorem test_second_swap_waits :
    let s := onWires (fun w => { w with editionChanges := [.a] })
      (posted 9 [] { running with tide := { (tideAt editionB 16409185) with editionB := editionB } })
    after .swapTide s = s ∧ result (after .swapTide (after .editionChangeEvent s)) = 0 ∧
      (after .swapTide (after .editionChangeEvent s)).intake = [] := by decide +kernel
theorem test_minute_event_at_the_tide_unit :
    (after .minuteEventTide (onWires (fun w => { w with toTide := [.minute
      { count := 16409260, hour := 7, minute := 40, weekday := 4, day := 14, suspect := false }] })
        (tided editionB running))).tide.level = 7327 := by decide +kernel
theorem test_time_set_and_suspect_change_at_the_tide_unit :
    (after .timeSetEventTide (onWires (fun w => { w with toTide := [.timeSet 0 16409185 false] }) (tided editionB running))).tide.level
      = 4865 ∧
    (let s := after .suspectChangeEventTide (onWires (fun w => { w with toTide := [.suspectChange true] })
      { running with tide := (tideAt editionB 16409185).recomputed })
     s.tide.valid = false ∧ s.tide.level = 4865 ∧ s.flag .tide = true) := by decide +kernel

theorem test_met_PredictionByTwelfths :
    ((tideAt editionB 16409000).liveEdition.Pairwise fun a b => a.time < b.time) ∧ (tideAt editionB 16409000).suspect = false ∧
      editionB = [] ++ event .low 16409000 600 :: event .high 16409372 9200 :: editionB.drop 2 ∧
      (16409000 ≤ 16409000 ∧ 16409000 < 16409372) ∧ (16409000 ≤ 16409371 ∧ 16409371 < 16409372) ∧ (600 : Int) ≤ 9200 ∧
      editionB = [event .low 16409000 600] ++ event .high 16409372 9200 :: event .low 16409748 450 :: editionB.drop 3 ∧
      (450 : Int) ≤ 9200 ∧ Tide.cold.suspect = true := by decide +kernel
theorem test_met_LoadTideChecksAndReplacesSpare :
    (∀ a ∈ [[0x2000, 0], [0x2000, 65], [0x3FF, 1], [0x3FFD, 1], [0x3FFC, 1], [0x3F00, 64], [0x2000, 6]],
      AtHead (posted 8 a running) 0 [] 8 ∧ argNum (posted 8 a running) 0 3 = a[0]! ∧ argNum (posted 8 a running) 0 4 = a[1]!) ∧
    (let s := posted 8 [0x2000, 6] (loaded editionB running)
     (∀ i, i < 6 → payloadCheck s 0x2000 i = none) ∧ s.tide.live = .a ∧ { s.tide with live := .b }.live = .b) ∧
    (let s := posted 8 [0x2000, 6] (loaded (editionB.set 3 (event .high 16410922 9400)) running)
     3 < 6 ∧ (∀ j, j < 3 → payloadCheck s 0x2000 j = none) ∧ payloadCheck s 0x2000 3 = some 8) := by
  unfold AtHead; decide +kernel
theorem test_met_SwapAndTideEventsRecompute :
    let s (t : Tide) := posted 9 [] { running with tide := t }
    let dead : Tide := { (tideAt editionB 16409185).recomputed with editionB := [event .low 1 0] }
    let sound : Tide := { (tideAt editionB 16409185).recomputed with editionB := editionB }
    (∀ t ∈ [Tide.cold, dead, sound], AtHead (s t) 0 [] 9) ∧ (s Tide.cold).tide.editionB = [] ∧
      (s dead).tide.editionB ≠ [] ∧ (s dead).wires.editionChanges = [] ∧
      (onWires (fun w => { w with editionChanges := [.a] }) (s dead)).wires.editionChanges ≠ [] ∧ (dead.valid = true ∧ ({ dead with live := .b }).recomputed.valid = false) ∧
      ¬((sound.valid = true ∧ ({ sound with live := .b }).recomputed.valid = false) ∨
        (sound.short = false ∧ ({ sound with live := .b }).recomputed.short = true)) ∧
      (∀ m ∈ [TimeEvent.minute { count := 1, hour := 0, minute := 1, weekday := 5, day := 1, suspect := false },
          .timeSet 0 1 false, .suspectChange true],
        (onWires (fun w => { w with toTide := [m] }) running).wires.toTide = m :: []) := by
  unfold AtHead; decide +kernel

/-! ## Tide alarms -/

/-- A LEVEL_HIGH alarm at 9000 mm, hysteresis 200, persistence 1, every action, derate value 2. -/
def highAlarm : Alarm :=
  { Alarm.cold with
    enabled := true, threshold := 9000, hysteresis := 200
    actions := { washAll := true, derate := true, holdRotation := true }, derateValue := 2 }

theorem test_sea_report_raises_and_asks_for_washes :
    let s := after .seaReport (onWires (fun w => { w with seaReports := [(9000, .good)] })
      (onAlarm 4 (fun _ => highAlarm) { running with fittedScreens := 2 }))
    (sel s.alarm.records 4).state = .raised ∧ s.flag .alarm = true ∧ s.wires.washRequests = [(0, .tide), (1, .tide)] ∧
      s.wires.actionChanges = [(some 2, true)] := by decide +kernel
theorem test_hysteresis_stands_then_clears :
    (highAlarm.measure 5 (some 9000)).record.state = .raised ∧
      ({ highAlarm with state := .raised }.measure 5 (some 8800)).record.state = .raised ∧
      ({ highAlarm with state := .raised }.measure 5 (some 8799)).record.state = .clearedUnack := by decide +kernel
theorem test_set_and_acknowledge_alarm :
    let s := after .setAlarm (posted 0x0A [9, 0, 1, 9000, 200, 1, 7, 2] running)
    let t := after .ackAlarm (posted 0x0B [0x10] (onAlarm 4 (fun _ => { highAlarm with state := .raised }) running))
    result s = 0 ∧ sel s.alarm.records 9 = highAlarm ∧ answer 2 t = [0x10, 0x10] ∧ (sel t.alarm.records 4).state = .standing := by
  decide +kernel
theorem test_rate_report : (sel (after .rateReport (onWires (fun w => { w with rateReports := [(9000, true)] })
    (onAlarm 4 (fun _ => { highAlarm with kind := .riseRate }) running))).alarm.records 4).state = .raised := by decide +kernel
theorem test_clock_alarm_at_its_minute :
    let s := after .minuteEventAlarm (onWires (fun w => { w with toAlarm := [.minute
      { count := 70, hour := 1, minute := 10, weekday := 5, day := 1, suspect := true }] })
      (onAlarm 0 (fun a => { a with kind := .clock, enabled := true, hour := 1, minute := 10, weekdays := 0x20 }) running))
    (sel s.alarm.records 0).state = .clearedUnack ∧ (sel s.alarm.records 0).raised = some 70 := by decide +kernel

/-- An enabled TIDE_LEAD alarm 120 minutes before each high water. -/
def leadAlarm : Alarm := { Alarm.cold with kind := .tideLead, enabled := true, lead := 120, which := .high }

theorem test_tide_lead_arming :
    (leadAlarm.arm 16409185 false editionB).armed = some 16409252 ∧ (leadAlarm.arm 16409252 false editionB).armed = some 16410002 ∧
      (leadAlarm.arm 16409185 true editionB).inputLost = true := by decide +kernel
theorem test_other_events_of_the_alarm_unit :
    (sel (after .timeSetEventAlarm (onWires (fun w => { w with toAlarm := [.timeSet 0 16409185 false] })
        (onAlarm 3 (fun _ => leadAlarm) (tided editionB running)))).alarm.records 3).armed = some 16409252 ∧
      (sel (after .suspectChangeEventAlarm (onWires (fun w => { w with toAlarm := [.suspectChange true] })
        (onAlarm 3 (fun _ => { leadAlarm with armed := some 1 }) running))).alarm.records 3).armed = none ∧
      (sel (after .editionChangeEvent (onWires (fun w => { w with editionChanges := [.a] })
        (onAlarm 3 (fun _ => { leadAlarm with armed := some 1 }) (tided editionB running)))).alarm.records 3).armed = none := by
  decide +kernel

/-- Alarm, kind, enabled, threshold, hysteresis, persistence, actions, derate, lead or hour, which or minute, mode, set or day. -/
theorem test_met_SetAlarmReplacesRecord :
    (∀ a ∈ [[15, 0, 1, 9000, 1000, 255, 7, 6, 0, 0, 0, 0], [15, 6, 1, 0, 0, 0, 1, 0, 720, 3, 0, 0],
        [15, 7, 1, 0, 0, 0, 1, 0, 23, 59, 1, 31], [15, 7, 1, 0, 0, 0, 1, 0, 23, 59, 0, 127], [15, 8, 1, 0, 0, 0, 1, 0, 0, 0, 0, 0],
        [15, 7, 1, 0, 0, 0, 1, 0, 24, 60, 0, 128], [15, 0, 2, 0, 1001, 0, 8, 7, 0, 0, 0, 0]],
      AtHead (posted 0x0A a running) 0 [] 0x0A ∧ argNum (posted 0x0A a running) 0 3 = (15 : Fin 16).1 ∧
        argNum (posted 0x0A a running) 0 4 = a[1]! ∧ argNum (posted 0x0A a running) 0 5 = a[2]! ∧
        argNum (posted 0x0A a running) 0 14 = a[11]!) ∧
      AlarmKind.levelHigh.code = 0 ∧ AlarmKind.tideLead.code = 6 ∧ AlarmKind.clock.code = 7 ∧
      AlarmKind.levelHigh.measured = true ∧ (sel running.alarm.records 15).state ≠ .raised ∧
      (sel (onAlarm 15 (fun a => { a with state := .raised }) running).alarm.records 15).state = .raised := by
  unfold AtHead; decide +kernel
theorem test_met_AckAlarmMovesMaskedAlarms :
    let s := posted 0x0B [0x8003] (onAlarm 0 (fun a => { a with state := .raised })
      (onAlarm 15 (fun a => { a with state := .clearedUnack }) running))
    AtHead s 0 [] 0x0B ∧ (argWord s 0 3).getLsbD 0 = true ∧ (sel s.alarm.records 0).state = .raised ∧
      (argWord s 0 3).getLsbD 15 = true ∧ (sel s.alarm.records 15).state = .clearedUnack ∧
      ¬((argWord s 0 3).getLsbD 1 = true ∧ ((sel s.alarm.records 1).state = .raised ∨
        (sel s.alarm.records 1).state = .clearedUnack)) := by unfold AtHead; decide +kernel
theorem test_met_MeasuredEvaluationByState :
    highAlarm.kind.measured = true ∧ (∀ st ∈ [AlarmState.quiet, .pending, .raised, .standing, .clearedUnack],
      { highAlarm with state := st }.state = st) ∧ highAlarm.threshold ≤ 9000 ∧ ¬highAlarm.threshold ≤ 8999 ∧
      (8799 : Int) < highAlarm.threshold - highAlarm.hysteresis ∧ ¬(8800 : Int) < highAlarm.threshold - highAlarm.hysteresis ∧
      { highAlarm with persistence := 255 }.persistence ≠ 1 ∧ 254 + 1 = 255 ∧ 253 + 1 ≠ 255 := by decide +kernel
theorem test_met_AlarmEventsHandleEveryAlarm :
    running.phase = .running ∧
      (∀ m ∈ [TimeEvent.minute { count := 1, hour := 0, minute := 1, weekday := 5, day := 1, suspect := false },
          .timeSet 0 1 false, .suspectChange true],
        (onWires (fun w => { w with toAlarm := [m] }) running).wires.toAlarm = m :: []) ∧
      (onWires (fun w => { w with seaReports := [(1, .lost)] }) running).wires.seaReports = (1, .lost) :: [] ∧
      (onWires (fun w => { w with rateReports := [(1, true)] }) running).wires.rateReports = (1, true) :: [] ∧
      (onWires (fun w => { w with editionChanges := [.b] }) running).wires.editionChanges = .b :: [] ∧
      (false ≠ true ∧ editionB ≠ []) := by decide +kernel

/-! ## Screens and the wash queue -/

theorem test_set_screen : let s := after .setScreen (posted 0x0C [5, 8, 10, 11, 900, 300, 1] running)
    result s = 0 ∧ (s.screen 5).chokeThreshold = 11 ∧ (s.screen 5).intervalRestart = true := by decide +kernel
theorem test_wash_order_and_its_end :
    let s := after .wash (posted 0x0D [1, 3] (working 1 .parked running))
    let t := after (.turnEdge 1 true) (onScreen 1 (fun x => { x with turnsWanted := 3, turnsDone := 2, washCount := 118 })
      (working 1 .washing (ordered 1 { running with wash := { running.wash with slots := 1 } })))
    s.hand 0 = .taken ∧ (s.screen 1).turnsWanted = 3 ∧ s.wash.queue = [(1, .routine)] ∧ t.hand 0 = .done ∧ result t = 0 ∧
      answer 1 t = [3] ∧ (t.screen 1).washCount = 119 ∧ t.wash.slots = 0 ∧ (t.screen 1).state = .rundown := by decide +kernel
theorem test_wash_cancelled :
    let s := after (.washCancel 1) (onWires (fun w => { w with washCancels := [(1, 0)] }) (onScreen 1
      (fun x => { x with turnsDone := 2 }) (working 1 .washing (ordered 1 { running with wash := { running.wash with slots := 1 } }))))
    result s = 8 ∧ answer 1 s = [2] ∧ (s.screen 1).state = .rundown := by decide +kernel
theorem test_hold_release_and_reset_screen :
    (let s := after .holdScreen (posted 0x0E [1] (onScreen 1 (fun x => { x with choked := true }) (working 1 .parked running)))
     (s.screen 1).service = .held ∧ (s.screen 1).choked = false ∧ s.wires.chokeChanges = [false]) ∧
      (after .releaseScreen (posted 0x0F [1] running)).chokeState = false ∧
      result (after .resetScreen (posted 0x10 [1] (onScreen 1 (fun x => { x with overload := true }) (working 1 .stalled running)))) = 5 := by
  decide +kernel
theorem test_wash_request : (after (.washRequest 2) (onWires (fun w => { w with washRequests := [(1, .tide), (2, .interval)] })
    (working 2 .parked running))).wires.washRequests = [(1, .tide)] := by decide +kernel
theorem test_differential_report_chokes_and_promotes :
    let s := after .differentialReport (onWires (fun w => { w with diffReports := [[(2, { value := 400, valid := true })]] })
      (working 2 .queued { running with wash := { running.wash with queue := [(0, .routine), (2, .routine)] } }))
    (s.screen 2).choked = true ∧ s.wash.queue = [(2, .urgent), (0, .routine)] ∧ s.wires.chokeChanges = [true] ∧
      s.flag .screen = true := by decide +kernel
theorem test_stalls_and_rundown :
    (after (.turnWatchExpiry 1) (onScreen 1 (fun x => { x with turnWatch := some 0 }) (working 1 .starting running))).screen 1
      = { (working 1 .stalled running).screen 1 with turnWatch := none } ∧
    ((after (.overloadEvent 1 true) (working 1 .rundown running)).screen 1).state = .stalled ∧
    ((after (.rundownExpiry 1) (onScreen 1 (fun x => { x with rundownClock := some 0, again := true })
      (working 1 .rundown running))).screen 1).state = .queued := by decide +kernel

/-- An edge that comes before the expiry restarts the watch, which then does not expire (R119); the extension keeps to the start
threshold that the last report found, whatever SET_SCREEN has stored since (R120, R134). -/
theorem test_edge_before_expiry_and_threshold_of_the_report :
    (let s := after (.turnEdge 1 true) (onScreen 1 (fun x => { x with turnWatch := some 0 }) (working 1 .starting running))
     after (.turnWatchExpiry 1) s = s ∧ (s.screen 1).state = .washing) ∧
    let s := onScreen 1 (fun x => { x with
        turnsDone := 1, causes := { CauseSet.empty with differential := true }, lastDp := { value := 260, valid := true }
        dpReached := true }) (working 1 .washing running)
    ((after (.turnEdge 1 true) (after .setScreen (posted 0x0C [1, 2, 300, 400, 240, 30, 0] s))).screen 1).turnsWanted = 3 := by
  decide +kernel

/-- Screen, turns, start, choke, turn timeout, rundown, interval restart. -/
theorem test_met_ScreenRecordOrders :
    (∀ a ∈ [[5, 1, 10, 11, 30, 10, 0], [5, 8, 5000, 10000, 900, 300, 1], [5, 9, 10, 11, 30, 10, 0], [5, 1, 10, 10, 30, 10, 0],
        [5, 1, 10, 11, 901, 10, 0], [5, 1, 10, 11, 30, 10, 2]],
      AtHead (posted 0x0C a running) 0 [] 0x0C ∧ argNum (posted 0x0C a running) 0 3 = (5 : ScreenNo).1 ∧
        argNum (posted 0x0C a running) 0 4 = a[1]! ∧ argNum (posted 0x0C a running) 0 9 = a[6]!) ∧
      running.screenFitted 5 = true ∧ AtHead (posted 0x0F [5] running) 0 [] 0x0F ∧
      (let s := posted 0x10 [5] (working 5 .stalled running)
       AtHead s 0 [] 0x10 ∧ (s.screen 5).state = .stalled ∧ (s.screen 5).overload = false) ∧
      (running.screen 5).state ≠ .stalled := by unfold AtHead; decide +kernel
theorem test_met_WashRequestsByState :
    (∀ st ∈ [ScreenState.parked, .queued, .starting, .washing, .rundown, .stalled],
      let s := working 5 st running
      let r := onWires (fun w => { w with washRequests := [(0, .tide), (5, .interval)] }) s
      r.phase = .running ∧ r.wires.washRequests = [(0, .tide)] ++ (5, .interval) :: [] ∧ (r.screen 5).state = st ∧
        (∀ m ∈ [((0 : ScreenNo), Cause.tide)], m.1 ≠ 5) ∧ (r.screen 5).service = .inService ∧ r.screenFitted 5 = true ∧
        (∀ k ∈ [0, 1, 8, 9], AtHead (posted 0x0D [5, k] s) 0 [] 0x0D ∧ argNum (posted 0x0D [5, k] s) 0 3 = (5 : ScreenNo).1 ∧
          argNum (posted 0x0D [5, k] s) 0 4 = k) ∧ (s.screen 5).washOrder = none) ∧
      { running with fittedScreens := 5 }.screenFitted 5 = false ∧ (running.screen 5).service = .held ∧
      ((ordered 5 running).screen 5).washOrder ≠ none := by unfold AtHead; decide +kernel
theorem test_met_TurnsRundownAndStalls :
    (∀ st ∈ [ScreenState.parked, .queued, .starting, .washing, .rundown, .stalled],
      ((working 5 st running).screen 5).state = st ∧ ((working 5 st running).screen 5).turn = false ∧
        ((working 5 st running).screen 5).overload = false) ∧
      running.screenFitted 5 = true ∧ { running with fittedScreens := 5 }.screenFitted 5 = false ∧ held.screenFitted 5 = true ∧
      held.phase = .held ∧ dark.phase = .unpowered ∧ State.reset.phase = .coldStart ∧
      (let x := (onScreen 5 (fun x => { x with
          turnsDone := 1, turnsWanted := 2, causes := { CauseSet.empty with differential := true }
          lastDp := { value := 150, valid := true }, dpReached := true, turnWatch := some 0 }) (working 5 .washing running)).screen 5
       x.turnsDone + 1 = x.turnsWanted ∧ (x.causes.differential = true ∧ x.dpReached = true ∧ x.turnsWanted < 8) ∧
         x.turnWatch = some 0 ∧ ¬(2 + 1 = x.turnsWanted)) ∧
      (let x := (onScreen 5 (fun x => { x with rundownClock := some 0, again := true }) (working 5 .rundown running)).screen 5
       x.state = .rundown ∧ x.rundownClock = some 0 ∧ x.again = true ∧ { x with again := false }.again = false) := by
  decide +kernel
/-- The choke state's premise with a choked screen, and the number of pumps in RUNNING. -/
theorem test_choke_state_and_running_count :
    (let s := onScreen 2 (fun x => { x with choked := true }) (working 2 .parked running)
     (∀ n, (s.screen n).service = .held → (s.screen n).choked = false) ∧ s.chokeState = true) ∧ running.chokeState = false ∧
      (pumping 0 .starting (pumping 5 .running (pumping 2 .running running))).runningCount = 2 := by decide +kernel
theorem test_met_HoldAndCancelEndTheWash :
    (∀ st ∈ [ScreenState.parked, .queued, .starting, .washing, .rundown, .stalled],
      let s := posted 0x0E [5] (working 5 st running)
      AtHead s 0 [] 0x0E ∧ argNum s 0 3 = (5 : ScreenNo).1 ∧ s.screenFitted 5 = true ∧ (s.screen 5).state = st) ∧
    (∀ st ∈ [ScreenState.queued, .starting, .washing, .rundown],
      let s := onWires (fun w => { w with washCancels := [(4, 1), (5, 0)] }) (working 5 st (ordered 5 running))
      s.phase = .running ∧ s.wires.washCancels = [(4, 1)] ++ (5, 0) :: [] ∧
        (∀ m ∈ [((4 : ScreenNo), (1 : Entry))], m.1 ≠ 5) ∧ (s.screen 5).state = st ∧
        (s.screen 5).washOrder = some { entry := 0, turns := 3, tag := 0x55 }) ∧ (running.screen 5).washOrder = none := by
  unfold AtHead; decide +kernel
theorem test_met_DifferentialReportMarksAndAsks :
    let s := onWires (fun w => { w with diffReports := [[(0, { value := 400, valid := true })], []] }) running
    s.phase = .running ∧ s.wires.diffReports = [(0, { value := 400, valid := true })] :: [[]] := by decide +kernel

/-! ## Wash water -/

theorem test_set_wash : let s := after .setWash (posted 0x11 [3, 2000, 60] running)
    result s = 0 ∧ answer 4 s = [1, 150, 15, 0] ∧ s.wash.capacity = 3 := by decide +kernel

/-- A wash unit with its header pressurised, one pump running, a queue and slots. -/
def watered (queue : List (ScreenNo × WashClass)) (slots : Nat) (s : State) : State :=
  { s with wash := { s.wash with pressurised := true, running := 1, queue := queue, slots := slots } }

theorem test_grant : let s := after .grant (watered [(1, .urgent)] 0 (onScreen 1 (fun x => { x with choked := true }) (working 1 .queued running)))
    (s.screen 1).state = .starting ∧ (s.screen 1).fast = true ∧ s.wash.slots = 1 ∧ s.wash.queue = [] := by decide +kernel
/-- The example of R142. -/
theorem test_suspension_reenters :
    let s := after .hReport (onWires (fun w => { w with hReports := [{ value := 149, quality := .good }] })
      { watered [(4, .urgent), (0, .routine)] 3 (onScreen 1 (fun x => { x with choked := true }) (working 1 .washing
        (working 5 .starting (working 2 .washing running)))) with
        wash := { (watered [(4, .urgent), (0, .routine)] 3 running).wash with lossCount := 14 } })
    s.wash.queue = [(1, .urgent), (4, .urgent), (2, .routine), (5, .routine), (0, .routine)] ∧ s.wash.slots = 0 ∧
      s.wash.pressurised = false := by decide +kernel
theorem test_running_pump_report :
    (after .runningPumpReport (onWires (fun w => { w with runningReports := [4] }) running)).wash.running = 4 := by decide +kernel

theorem test_met_SetWashStoresSettings :
    (∀ a ∈ [[1, 0, 1], [3, 2000, 60], [0, 0, 1], [4, 0, 1], [1, 2001, 1], [1, 0, 0], [1, 0, 61]],
      AtHead (posted 0x11 a running) 0 [] 0x11 ∧ argNum (posted 0x11 a running) 0 3 = a[0]! ∧
        argNum (posted 0x11 a running) 0 4 = a[1]! ∧ argNum (posted 0x11 a running) 0 5 = a[2]!) ∧
      1 < (watered [] 2 running).wash.slots ∧ running.wash.slots ≤ 1 := by unfold AtHead; decide +kernel
theorem test_met_GrantPressureAndSuspension :
    let s := watered [(1, .routine)] 0 running
    s.phase = .running ∧ (s.wash.slots < s.wash.capacity ∧ s.wash.pressurised = true ∧ 1 ≤ s.wash.running) ∧
      s.wash.queue = (1, .routine) :: [] ∧ (s.screen 1).overload = false ∧
      ((onScreen 1 (fun x => { x with overload := true }) s).screen 1).overload = true ∧
      ¬(running.wash.slots < running.wash.capacity ∧ running.wash.pressurised = true ∧ 1 ≤ running.wash.running) ∧
      (onWires (fun w => { w with hReports := [{ value := 150, quality := .good }] }) s).wires.hReports =
        { value := 150, quality := .good } :: [] ∧ (s.wash.minPressure : Int) ≤ 150 ∧ ¬(s.wash.minPressure : Int) ≤ 149 ∧
      min (14 + 1) 60 < 60 ∧ s.wash.tolerance ≤ min (14 + 1) 60 ∧ min (13 + 1) 60 < s.wash.tolerance ∧
      (onWires (fun w => { w with runningReports := [6] }) s).wires.runningReports = 6 :: [] := by decide +kernel

/-! ## Pumps -/

theorem test_hold_and_release_pump :
    (let s := after .holdPump (posted 0x13 [0] (pumping 0 .running running))
     (s.pump 0).state = .stopping ∧ (s.pump 0).lastStop = some .held ∧ answer 2 s = [2, 0]) ∧
      ((after .releasePump (posted 0x14 [0] running)).pump 0).available = true ∧
      ((after .releasePump (posted 0x14 [0] running)).wires.pumpReports.map fun r => r.available) = [true] := by decide +kernel
theorem test_reset_and_set_pump :
    (let s := after .resetPump (posted 0x15 [0] (onPump 0 (fun x => { x with lastStop := some .motorTrip }) (pumping 0 .tripped running)))
     (s.pump 0).state = .stopped ∧ (s.pump 0).delayRemaining = 300 ∧ answer 1 s = [3]) ∧
      answer 2 (after .setPump (posted 0x12 [0, 5, 1, 5, 0, 3001] (pumping 0 .stopped running))) = [0, 0] := by decide +kernel
theorem test_start_is_accepted_and_refused :
    (let s := after .startRequest (onWires (fun w => { w with pumpRequests := [.start 0] }) (pumping 0 .stopped running))
     (s.pump 0).state = .starting ∧ (s.pump 0).proveWatch = some 30 ∧ (s.pump 0).startCount = 1) ∧
      (after .startRequest (onWires (fun w => { w with pumpRequests := [.start 0] }) running)).wires.pumpReports.map
        (fun r => r.refused) = [true] ∧
      ((after .stopRequest (onWires (fun w => { w with pumpRequests := [.stop 0] }) (pumping 0 .running running))).pump 0).lastStop
        = some .duty := by decide +kernel
theorem test_proof_and_its_loss :
    ((after (.proofEdge 0) (pumping 0 .starting running)).wires.runningReports = [1]) ∧
      ((after (.proofDrop 0) (onPump 0 (fun x => { x with proof := true }) (pumping 0 .running running))).pump 0).lossWatch = some 5 ∧
      ((after (.lossWatchExpiry 0) (onPump 0 (fun x => { x with lossWatch := some 0 }) (pumping 0 .running running))).pump 0).lastStop
        = some .proofLost ∧
      ((after (.proveWatchExpiry 0) (onPump 0 (fun x => { x with proveWatch := some 0 }) (pumping 0 .starting running))).pump 0).state
        = .tripped := by decide +kernel
theorem test_motor_fault_and_rest :
    (after (.motorFaultEvent 0) (pumping 0 .stopping running)).flag .pump = true ∧
      ((after (.motorFaultClear 0) (onPump 0 (fun x => { x with motorFault := true }) (pumping 0 .stopped running))).pump 0).available
        = true ∧
      ((after (.stoppingClockExpiry 0) (onPump 0 (fun x => { x with stoppingClock := some 0 })
        (pumping 0 .stopping running))).pump 0).delayRemaining = 300 ∧
      ((after (.restartDelayEnd 0) (onPump 0 (fun x => { x with delayRemaining := 1, delayDue := true }) (pumping 0 .stopped running))).pump 0).available
        = true := by decide +kernel
theorem test_w_report_stops_at_twenty :
    let s := after .wReport (onWires (fun w => { w with wToPump := [{ value := 99, quality := .good }] })
      (onPump 0 (fun x => { x with minSubmergence := 100, submergenceCount := 19 }) (pumping 0 .running running)))
    (s.pump 0).state = .stopping ∧ (s.pump 0).lastStop = some .submergence ∧ s.flag .pump = true := by decide +kernel

/-- A held pump out of service, as reset leaves it, and one in each state. -/
theorem test_met_PumpRecordOrders :
    (∀ st ∈ [PumpState.stopped, .starting, .running, .stopping, .tripped], ∀ k ∈ [0x13, 0x14, 0x15],
      let s := posted k [5] (pumping 5 st running)
      AtHead s 0 [] k ∧ argNum s 0 3 = (5 : PumpNo).1 ∧ s.pumpFitted 5 = true ∧ (s.pump 5).state = st ∧
        (s.pump 5).motorFault = false) ∧
    ∀ a ∈ [[5, 5, 1, 5, 0, 0], [5, 120, 30, 300, 900, 65535], [5, 4, 1, 5, 0, 0], [5, 5, 31, 5, 0, 0], [5, 5, 1, 301, 0, 0],
      [5, 5, 1, 5, 901, 0]],
      AtHead (posted 0x12 a running) 0 [] 0x12 ∧ argNum (posted 0x12 a running) 0 4 = a[1]! ∧
        argNum (posted 0x12 a running) 0 5 = a[2]! ∧ argNum (posted 0x12 a running) 0 6 = a[3]! ∧
        argNum (posted 0x12 a running) 0 7 = a[4]! := by unfold AtHead; decide +kernel
/-- A pump ready to start, W exactly at its minimum submergence, and its availability as R154 gives it. -/
def ready : State :=
  onPump 5 (fun x => { x with minSubmergence := 3000, available := true }) (pumping 5 .stopped running)
theorem test_met_PumpStartStopAndProof :
    AvailabilityInv ready ∧ ready.phase = .running ∧ ready.pumpFitted 5 = true ∧
      ((ready.pump 5).service = .inService ∧ (ready.pump 5).state = .stopped ∧ (ready.pump 5).delayRemaining = 0 ∧
        (ready.pump 5).motorFault = false ∧ ready.pumps.lastW.quality = .good ∧
        (ready.pump 5).minSubmergence ≤ ready.pumps.lastW.value) ∧
      ¬(running.pump 5).service = .inService ∧
      (∀ r ∈ [PumpRequest.start 5, .stop 5], (onWires (fun w => { w with pumpRequests := [r] }) ready).wires.pumpRequests = r :: []) ∧
      AvailabilityInv (pumping 5 .starting running) ∧ AvailabilityInv (pumping 5 .running running) ∧
      { running with fittedPumps := 5 }.pumpFitted 5 = false ∧ held.pumpFitted 5 = true ∧ (running.pump 5).proof = false ∧
      ((onPump 5 (fun x => { x with proof := true }) running).pump 5).proof = true := by
  unfold AvailabilityInv; decide +kernel
theorem test_met_PumpTripsAndRest :
    let x (st : PumpState) := (onPump 5 (fun x => { x with
      proveWatch := some 0, lossWatch := some 0, stoppingClock := some 0, delayRemaining := 1, delayDue := true })
      (pumping 5 st running)).pump 5
    (∀ st ∈ [PumpState.stopped, .starting, .running, .stopping, .tripped],
      (x st).state = st ∧ (x st).proveWatch = some 0 ∧ (x st).lossWatch = some 0 ∧ (x st).stoppingClock = some 0 ∧
        (x st).delayRemaining = 1 ∧ (x st).delayDue = true ∧ (x st).motorFault = false) ∧
      running.phase = .running ∧ held.phase = .held ∧ running.pumpFitted 5 = true ∧ held.pumpFitted 5 = true ∧
      (let h := onPump 5 (fun x => { x with delayRemaining := 1, delayDue := true }) held
       (h.pump 5).state = .stopped ∧ (h.pump 5).delayRemaining = 1 ∧ (h.pump 5).delayDue = true ∧ h.phase = .held) ∧
      ((onPump 5 (fun x => { x with motorFault := true }) held).pump 5).motorFault = true ∧
      { running with fittedPumps := 5 }.pumpFitted 5 = false ∧ dark.phase = .unpowered ∧ State.reset.phase = .coldStart := by
  decide +kernel
theorem test_met_WReportGuardsSubmergence :
    let s := onWires (fun w => { w with wToPump := [{ value := 99, quality := .good }] })
      (onPump 5 (fun x => { x with minSubmergence := 100, submergenceCount := 19 }) (pumping 5 .running
        (onPump 4 (fun x => { x with minSubmergence := 100, submergenceCount := 18 }) (pumping 4 .starting
          (onPump 3 (fun x => { x with minSubmergence := 99 }) (pumping 3 .running { running with fittedPumps := 6 }))))))
    s.phase = .running ∧ s.wires.wToPump = { value := 99, quality := .good } :: [] ∧ s.pumpFitted 5 = true ∧
      (s.pump 5).state = .running ∧ 99 < (s.pump 5).minSubmergence ∧ 20 ≤ (s.pump 5).submergenceCount + 1 ∧
      (s.pump 4).state = .starting ∧ 99 < (s.pump 4).minSubmergence ∧ ¬20 ≤ (s.pump 4).submergenceCount + 1 ∧
      (s.pump 3).state = .running ∧ ¬99 < (s.pump 3).minSubmergence ∧ (s.pump 2).state = .stopped ∧
      { s with fittedPumps := 5 }.pumpFitted 5 = false := by decide +kernel

/-! ## Duty -/

def seen (st : PumpState) (available : Bool) : PumpView := { state := st, available := available, stopSent := false }

/-- A duty unit with a demand and its running limit. -/
def demanding (k : Nat) (s : State) : State := onDuty (fun d => { d with demand := k, limit := k }) s

theorem test_demand_starts_the_first_available : let s := after .setDemand (posted 0x16 [1] (onView 1 (seen .stopped true) running))
    result s = 0 ∧ answer 2 s = [0, 1] ∧ s.duty.move = .start 1 ∧ s.wires.pumpRequests = [.start 1] := by decide +kernel
theorem test_demand_falls_short : (after .setDemand (posted 0x16 [1] running)).flag .pump = true ∧
    (after .setDemand (posted 0x16 [1] running)).duty.shortfall = true := by decide +kernel
theorem test_choke_limit_and_lock :
    (after .setChoke (posted 0x1A [1] (onView 1 (seen .running false) (onView 0 (seen .running false)
      (demanding 2 (onDuty (fun d => { d with chokeCopy := true }) running)))))).wires.pumpRequests = [.stop 1] ∧
      result (after .setDemand (posted 0x16 [1] (after .lockDuty (posted 0x19 [] running)))) = 6 := by decide +kernel
theorem test_set_roster : let s := after .setRoster (posted 0x17 [5, 4, 3, 2, 1, 0] running)
    s.duty.roster = [5, 4, 3, 2, 1, 0] ∧ answer 6 s = [0, 1, 2, 3, 4, 5] := by decide +kernel

/-- P0 runs, P1 stands available, one pump is asked for. -/
def oneOfTwo : State := onView 0 (seen .running false) (onView 1 (seen .stopped true) (demanding 1 running))

theorem test_change_is_taken_and_proves :
    let s := after .change (posted 0x18 [0, 1] oneOfTwo)
    let t := after .pumpChangeReport (onWires (fun w => { w with
      pumpReports := [{ pump := 1, state := .running, service := .inService, available := false, lastStop := none, refused := false }]
      }) s)
    s.hand 0 = .taken ∧ s.duty.roster = [1, 0, 2, 3, 4, 5] ∧ s.wires.pumpRequests = [.start 1] ∧ result t = 0 ∧
      answer 2 t = [1, 0] ∧ t.wires.pumpRequests = [.start 1, .stop 0] ∧ t.duty.move = .none := by decide +kernel
theorem test_change_cancelled : let s := after .changeCancel (onWires (fun w => { w with changeCancels := [0] })
      (after .change (posted 0x18 [0, 1] oneOfTwo)))
    result s = 8 ∧ s.duty.roster = [0, 1, 2, 3, 4, 5] ∧ s.wires.pumpRequests = [.start 1, .stop 1] := by decide +kernel
theorem test_rotation : let s := after .rotationExpiry (onWires (fun w => { w with rotationExpiries := 1 }) oneOfTwo)
    s.duty.roster = [1, 2, 3, 4, 5, 0] ∧ s.duty.move = .change 1 0 .reconcile := by decide +kernel
theorem test_copies_at_the_duty_unit :
    (after .chokeChangeEvent (onWires (fun w => { w with chokeChanges := [true] }) running)).duty.chokeCopy = true ∧
      (after .actionChangeEvent (onWires (fun w => { w with actionChanges := [(some 2, true)] }) running)).duty.floorCopy = some 2 ∧
      (after .wReportDuty (onWires (fun w => { w with wToDuty := [{ value := 7, quality := .good }] }) running)).duty.lastW.value = 7 := by
  decide +kernel
/-- The example of R176. -/
theorem test_target_set_of_the_example :
    targetSet (onDuty (fun d => { d with roster := [3, 0, 1, 2], limit := 2 }) (onView 3 (seen .tripped false)
      (onView 0 (seen .running false) (onView 2 (seen .stopped true) { running with fittedPumps := 4 })))).duty = [0, 2] := by
  decide +kernel

theorem test_met_DutyOrders :
    (∀ a ∈ [0, 1, 5, 6, 65535], ∀ k ∈ [0x16, 0x1A],
      let s := posted k [a] { running with fittedPumps := 5 }
      AtHead s 0 [] k ∧ argNum s 0 3 = a ∧ s.fittedPumps ≤ 6 ∧ s.duty.lock = false ∧ s.duty.move = .none) ∧
    (∀ a ∈ [[5, 4, 3, 2, 1, 0], [0, 1, 2, 3, 4, 6], [0, 1, 2, 3, 4, 4]],
      let s := posted 0x17 a running
      AtHead s 0 [] 0x17 ∧ (List.range 6).map (fun i => argNum s 0 (3 + i)) = a) ∧
    [(5 : PumpNo), 4, 3, 2, 1, 0].map (fun p => p.1) = [5, 4, 3, 2, 1, 0] ∧
    AtHead (posted 0x19 [] running) 0 [] 0x19 ∧ (onDuty (fun d => { d with lock := true }) running).duty.lock = true ∧
    (changing running).duty.move ≠ .none := by unfold AtHead; decide +kernel
theorem rosterInv_oneOfTwo (a : List Nat) : RosterInv (posted 0x18 a oneOfTwo) := by
  refine ⟨?_, fun r h => (by cases h), rfl, rfl⟩
  have h : IsRoster oneOfTwo oneOfTwo.duty.roster := by unfold IsRoster; decide +kernel
  exact h
theorem test_met_ChangeOrderAndCancel :
    (∀ a ∈ [[0, 1], [0, 5], [6, 1], [0, 6]], AtHead (posted 0x18 a oneOfTwo) 0 [] 0x18 ∧
      argNum (posted 0x18 a oneOfTwo) 0 3 = a[0]! ∧ argNum (posted 0x18 a oneOfTwo) 0 4 = a[1]!) ∧
    (let s := posted 0x18 [0, 1] oneOfTwo
     s.pumpFitted 0 = true ∧ s.pumpFitted 1 = true ∧ s.duty.lock = false ∧ s.duty.move = .none ∧
       countedRunning s.duty 0 = true ∧ countedAvailable s.duty 1 = true ∧ 1 ∉ targetSet s.duty ∧
       (∀ p, p ∈ s.duty.roster → (countedRunning s.duty p = true ↔ p ∈ targetSet s.duty)) ∧
       ¬countedAvailable s.duty 5 = true) ∧
    (let s := onWires (fun w => { w with changeCancels := [0, 3] }) (changing running)
     s.phase = .running ∧ s.wires.changeCancels = 0 :: [3] ∧ s.duty.changeOrder = some { entry := 0, tag := 0x55 } ∧
       s.duty.move = .change 1 0 .order) ∧ running.duty.changeOrder = none ∧
    { running with fittedPumps := 5 }.fittedPumps ≤ 5 := by unfold AtHead; decide +kernel
theorem test_met_DutyCopiesAndRotation :
    let s := onWires (fun w => { w with
      chokeChanges := [true], actionChanges := [(none, false)], wToDuty := [{ value := 7, quality := .good }]
      rotationExpiries := 2 }) running
    s.phase = .running ∧ s.wires.chokeChanges = true :: [] ∧ s.wires.actionChanges = (none, false) :: [] ∧
      s.wires.wToDuty = { value := 7, quality := .good } :: [] ∧ s.wires.rotationExpiries = 1 + 1 ∧ s.duty.lock = false ∧
      s.duty.holdCopy = false ∧ s.duty.move = .none ∧ s.duty.roster = 0 :: [1, 2, 3, 4, 5] ∧
      (changing s).duty.move ≠ .none ∧ (onDuty (fun d => { d with holdCopy := true }) s).duty.holdCopy = true := by
  decide +kernel
/-- A report of each state of the incoming, of the outgoing and of another pump, with a START and with a CHANGE in flight. -/
theorem test_met_PumpReportMoveRules :
    (∀ st ∈ [PumpState.stopped, .starting, .running, .stopping, .tripped], ∀ p ∈ [(0 : PumpNo), 1, 5],
      let r : PumpReport := { pump := p, state := st, service := .inService, available := false, lastStop := none, refused := false }
      let s := onWires (fun w => { w with pumpReports := [r] }) running
      s.phase = .running ∧ s.wires.pumpReports = r :: [] ∧ r.pump = p ∧ r.state = st ∧ (sel s.duty.view p).stopSent = false) ∧
      running.duty.move = .none ∧ (onDuty (fun d => { d with move := .start 5 }) running).duty.move = .start 5 ∧
      (changing running).duty.move = .change 1 0 .order ∧ (1 : PumpNo) ≠ 0 := by decide +kernel
theorem test_met_DutyEventBoundsRunning :
    RosterInv { oneOfTwo with duty := { oneOfTwo.duty with limit := runningLimit oneOfTwo.duty } } ∧
      runningLimit oneOfTwo.duty = 1 ∧ (1 : Nat) ≠ running.duty.limit :=
  ⟨rosterInv_oneOfTwo [], by decide +kernel, by decide +kernel⟩
/-- Each case of reconcile: case 1 with a START and no move, case 2 with a pump and without one, case 3, case 4, none. -/
theorem test_met_ReconcileByCases :
    IsRoster running running.duty.roster ∧ IsRoster oneOfTwo oneOfTwo.duty.roster := by unfold IsRoster; decide +kernel
theorem test_met_ReconcileByCases_one_and_two :
    (onDuty (fun d => { d with limit := 0 }) oneOfTwo).duty.limit < (countedSet oneOfTwo.duty).length + startsOne oneOfTwo.duty.move ∧
      running.duty.limit < (countedSet running.duty).length + startsOne (.start 5) ∧
      (countedSet oneOfTwo.duty).length < (demanding 2 oneOfTwo).duty.limit ∧ countedAvailable oneOfTwo.duty 1 = true ∧
      (∀ p ∈ running.duty.roster, countedAvailable running.duty p = false) := by decide +kernel
theorem test_met_ReconcileByCases_three_and_four :
    (let d := (onDuty (fun d => { d with roster := [1, 0, 2, 3, 4, 5] }) oneOfTwo).duty
     d.move = .none ∧ (countedSet d).length = d.limit ∧ 1 ∈ d.roster ∧ ¬(countedRunning d 1 = true ↔ 1 ∈ targetSet d)) ∧
    (let d := (onDuty (fun d => { d with rotationPending := true }) oneOfTwo).duty
     ¬(d.limit < (countedSet d).length + startsOne d.move) ∧ ¬(countedSet d).length < d.limit ∧
         (∀ p ∈ d.roster, countedRunning d p = true ↔ p ∈ targetSet d) ∧ d.move = .none ∧ d.rotationPending = true ∧
         d.lock = false ∧ d.holdCopy = false ∧ d.roster = 0 :: [1, 2, 3, 4, 5]) ∧
      ¬(oneOfTwo.duty.move = .none ∧ oneOfTwo.duty.rotationPending = true) := by decide +kernel

end Sys2Proof.Tests
end

/-!
# Orders and their holders

What an event of the part can do to an order on its way: nothing (`Quiet`), or it passes entries between the intake queue, the
units that hold them and their completion (`Passes`). Both relations compose, so that each event is followed once.
-/

section
namespace Sys2Proof

open Sys2Proof.Machine

/-! ## The frame of an event -/

/-- What every event but a reset or power leaves: the queue of commands, the phase and the fitted counts. -/
structure SameFrame (s t : State) : Prop where
  pending : t.pending = s.pending
  phase : t.phase = s.phase
  fittedScreens : t.fittedScreens = s.fittedScreens
  fittedPumps : t.fittedPumps = s.fittedPumps

theorem SameFrame.refl (s : State) : SameFrame s s := ⟨rfl, rfl, rfl, rfl⟩

theorem SameFrame.trans {s t u : State} (h : SameFrame s t) (h' : SameFrame t u) : SameFrame s u :=
  ⟨h'.pending.trans h.pending, h'.phase.trans h.phase, h'.fittedScreens.trans h.fittedScreens,
    h'.fittedPumps.trans h.fittedPumps⟩

theorem DutyOnly.sameFrame {s t : State} (h : DutyOnly s t) : SameFrame s t := by
  unfold DutyOnly at h
  constructor <;> rw [h]

/-- An event that leaves every order where it is: exchange memory, hands, intake queue and holders stand, and so does whether a
CHANGE of origin ORDER is in flight. -/
structure Quiet (s t : State) : Prop extends SameFrame s t where
  mem : t.mem = s.mem
  hands : t.hands = s.hands
  intake : t.intake = s.intake
  washOrder : ∀ n, (t.screen n).washOrder = (s.screen n).washOrder
  changeOrder : t.duty.changeOrder = s.duty.changeOrder
  ordered : Move.isOrdered t.duty.move = Move.isOrdered s.duty.move

theorem Quiet.refl (s : State) : Quiet s s := ⟨SameFrame.refl s, rfl, rfl, rfl, fun _ => rfl, rfl, rfl⟩

theorem Quiet.trans {s t u : State} (h : Quiet s t) (h' : Quiet t u) : Quiet s u :=
  ⟨h.toSameFrame.trans h'.toSameFrame, h'.mem.trans h.mem, h'.hands.trans h.hands, h'.intake.trans h.intake,
    fun n => (h'.washOrder n).trans (h.washOrder n), h'.changeOrder.trans h.changeOrder, h'.ordered.trans h.ordered⟩

/-- An event that changes no screen, no hand, no memory and no duty record is quiet. -/
theorem Quiet.of_fields {s t : State}
    (h : t = { s with
      port := t.port, time := t.time, level := t.level, tide := t.tide, alarm := t.alarm, wash := t.wash, pumps := t.pumps
      wires := t.wires, draws := t.draws }) : Quiet s t := by
  rw [h]
  exact ⟨⟨rfl, rfl, rfl, rfl⟩, rfl, rfl, rfl, fun _ => rfl, rfl, rfl⟩

/-- A fold of quiet events is quiet. -/
theorem Quiet.foldl {α : Type} (f : State → α → State) (h : ∀ s a, Quiet s (f s a)) (l : List α) (s : State) :
    Quiet s (l.foldl f s) := by
  induction l generalizing s with
  | nil => exact Quiet.refl s
  | cons a l ih => exact (h s a).trans (ih (f s a))

theorem setFlag_quiet (s : State) (f : Flag) : Quiet s (s.setFlag f) := Quiet.of_fields rfl

theorem setFlagIf_quiet (s : State) (c : Bool) (f : Flag) : Quiet s (s.setFlagIf c f) := by
  cases c
  · exact Quiet.refl s
  · exact setFlag_quiet s f

theorem wires_quiet (s : State) (w : Wires) : Quiet s { s with wires := w } := Quiet.of_fields rfl

/-- A screen rewritten without its wash order. -/
theorem withScreen_quiet (s : State) (n : ScreenNo) (x : Screen) (w : Wash)
    (h : x.washOrder = (s.screen n).washOrder) : Quiet s (withScreen s n x w) := by
  refine ⟨⟨rfl, rfl, rfl, rfl⟩, rfl, rfl, rfl, fun m => ?_, rfl, rfl⟩
  show (sel (upd s.screens n x) m).washOrder = _
  rw [sel_upd]
  split
  · next hm => rw [h, hm]
  · rfl

theorem setScreen_quiet (s : State) (n : ScreenNo) (x : Screen)
    (h : x.washOrder = (s.screen n).washOrder) : Quiet s (s.setScreen n x) := withScreen_quiet s n x s.wash h

/-- Every screen rewritten without its wash order. -/
theorem screens_quiet (s : State) (f : ScreenNo → Screen) (w : Wash)
    (h : ∀ n, (f n).washOrder = (s.screen n).washOrder) : Quiet s { s with screens := tab f, wash := w } := by
  refine ⟨⟨rfl, rfl, rfl, rfl⟩, rfl, rfl, rfl, fun m => ?_, rfl, rfl⟩
  show (sel (tab f) m).washOrder = _
  rw [sel_tab, h]

/-- A duty record rewritten without its change order and with a move of the same origin. -/
theorem setDuty_quiet (s : State) (d : Duty) (h : d.changeOrder = s.duty.changeOrder)
    (h' : Move.isOrdered d.move = Move.isOrdered s.duty.move) : Quiet s (s.setDuty d) :=
  ⟨⟨rfl, rfl, rfl, rfl⟩, rfl, rfl, rfl, fun _ => rfl, h, h'⟩

/-! ## Quiet events of the time, level, tide and alarm units -/

theorem sendSecond_quiet (old new : Clock) (s : State) : Quiet s (s.sendSecond old new) := by
  unfold State.sendSecond
  dsimp only
  split
  · split <;> exact Quiet.of_fields rfl
  · split <;> exact Quiet.of_fields rfl

theorem stepTimer_quiet (t : TimerNo) (u : TickUnit) (s : State) : Quiet s (s.stepTimer t u) := by
  unfold State.stepTimer
  dsimp only
  split
  · split
    · refine Quiet.trans (t := s.setTimer t (s.timer t).expire) (Quiet.of_fields rfl) ?_
      unfold State.tellOwner
      split <;> exact Quiet.of_fields rfl
    · exact Quiet.of_fields rfl
  · exact Quiet.refl s

theorem reloadInterval_quiet (n : ScreenNo) (s : State) : Quiet s (s.reloadInterval n) := by
  unfold State.reloadInterval
  split
  · exact Quiet.refl s
  · split <;> exact Quiet.of_fields rfl

theorem recompute_quiet (t : Tide) (s : State) : Quiet s (s.recompute t) := by
  rw [recompute_eq]
  exact Quiet.of_fields rfl

theorem alarmEvent_quiet (s : State) (unit : AlarmUnit) (f : Alarm → AlarmStep) : Quiet s (s.alarmEvent unit f) := by
  rw [alarmEvent_eq]
  exact Quiet.of_fields rfl

theorem sendActionChangeFrom_quiet (old : AlarmUnit) (s : State) : Quiet s (s.sendActionChangeFrom old) := by
  unfold State.sendActionChangeFrom
  split <;> exact Quiet.of_fields rfl

/-! ## Quiet events of the screen, wash and pump units -/

theorem request_quiet (n : ScreenNo) (c : Cause) (s : State) : Quiet s (s.request n c) := by
  rw [request_eq]
  dsimp only
  split
  · exact Quiet.refl s
  · split
    · exact withScreen_quiet s n _ _ rfl
    · split <;> exact withScreen_quiet s n _ _ rfl

theorem endRundown_quiet (n : ScreenNo) (s : State) : Quiet s (s.endRundown n) := by
  unfold State.endRundown
  dsimp only
  split
  · rw [joinScreen_eq]
    exact withScreen_quiet s n _ _ rfl
  · exact setScreen_quiet s n _ rfl

theorem differentialAt_quiet (n : ScreenNo) (d : Differential) (s : State) : Quiet s (s.differentialAt n d) := by
  have flagged : ∀ (c : Bool) (x : Screen) (w : Wash), x.washOrder = (s.screen n).washOrder →
      Quiet s (withScreen (if c then withFlag s .screen else s) n x w) := by
    intro c x w h
    cases c
    · exact withScreen_quiet s n x w h
    · exact (setFlag_quiet s .screen).trans (withScreen_quiet _ n x w h)
  rw [differentialAt_eq]
  unfold differentialHandled
  dsimp only
  split
  · exact Quiet.refl s
  · split
    · exact flagged _ _ _ rfl
    · split
      · exact flagged _ _ _ rfl
      · split <;> exact flagged _ _ _ rfl

theorem sendChokeFrom_quiet (old : Bool) (s : State) : Quiet s (s.sendChokeFrom old) := by
  unfold State.sendChokeFrom
  split <;> exact Quiet.of_fields rfl

theorem suspend_quiet (s : State) : Quiet s s.suspend := by
  refine screens_quiet s _ _ fun n => ?_
  split <;> rfl

theorem setPump_quiet (p : PumpNo) (x : Pump) (s : State) : Quiet s (s.setPump p x) := Quiet.of_fields rfl

theorem pumpEvent_quiet (p : PumpNo) (f : Pump → Pump) (s : State) : Quiet s (s.pumpEvent p f) := by
  rw [pumpEvent_eq]
  exact Quiet.of_fields rfl

theorem trip_quiet (cause : StopCause) (p : PumpNo) (s : State) : Quiet s (s.trip cause p) :=
  (pumpEvent_quiet p _ s).trans (setFlag_quiet _ _)

theorem settlePumps_quiet (ps : List PumpNo) (s before : State) : Quiet s (State.settlePumps ps s before) := by
  unfold State.settlePumps
  rw [reportRunning_eq]
  refine Quiet.trans ?_ (Quiet.of_fields rfl)
  exact (Quiet.foldl _ (fun t p => setPump_quiet p _ t) ps s).trans
    (Quiet.foldl _ (fun t p => by rw [reportIfChanged_eq]; exact Quiet.of_fields rfl) ps _)

theorem start_quiet (p : PumpNo) (s : State) : Quiet s (s.start p) := by
  unfold State.start
  split
  · split
    · exact pumpEvent_quiet p _ s
    · exact Quiet.of_fields rfl
  · exact Quiet.refl s

theorem proof_quiet (p : PumpNo) (s : State) : Quiet s (s.proof p) := by
  unfold State.proof
  split
  · exact pumpEvent_quiet p _ s
  · exact setPump_quiet p _ s
  all_goals exact Quiet.refl s

theorem unproof_quiet (p : PumpNo) (s : State) : Quiet s (s.unproof p) := by
  unfold State.unproof
  split
  · exact setPump_quiet p _ s
  all_goals exact Quiet.refl s

theorem motorFault_quiet (p : PumpNo) (s : State) : Quiet s (s.motorFault p) := by
  unfold State.motorFault
  split
  · exact trip_quiet _ p s
  · exact trip_quiet _ p s
  · exact trip_quiet _ p s
  · exact pumpEvent_quiet p _ s
  · exact Quiet.refl s

/-- A pump's field line is quiet in every phase. -/
theorem pumpLine_quiet (p : PumpNo) (changes : Bool) (store event : State → State) (s : State) (hs : Quiet s (store s))
    (he : ∀ t, Quiet t (event t)) : Quiet s (s.pumpLine p changes store event) := by
  unfold State.pumpLine
  split
  · split
    · exact Quiet.refl s
    · exact Quiet.refl s
    · exact hs
    · exact hs.trans (he _)
  · exact Quiet.refl s

theorem restartDelayEnd_quiet (p : PumpNo) (s : State) : Quiet s (s.restartDelayEnd p) := by
  unfold State.restartDelayEnd
  split
  · split
    · exact Quiet.refl s
    · exact Quiet.refl s
    · exact setPump_quiet p _ s
    · exact pumpEvent_quiet p _ s
  · exact Quiet.refl s

/-- An event that a running part alone handles is quiet if its effect is. -/
theorem whenRunning_quiet (f : State → State) (s : State) (h : Quiet s (f s)) : Quiet s (s.whenRunning f) := by
  unfold State.whenRunning
  split
  · exact h
  all_goals exact Quiet.refl s

end Sys2Proof
end


/-!
# The exchange within an event

Who holds an entry, what an event still owes it, and each rule of an order followed from its take to its completion or its holder.
-/

section
namespace Sys2Proof

open Sys2Proof.Machine

/-! ## Holders -/

/-- The entry of a wash order, if a screen holds one. -/
def washEntries (x : Screen) : List Entry := (x.washOrder.map fun o => o.entry).toList

/-- The entry of the change order, if the duty unit holds one. -/
def changeEntries (d : Duty) : List Entry := (d.changeOrder.map fun o => o.entry).toList

theorem holders_eq (s : State) :
    holders s = ((List.finRange 6).filterMap fun n => (s.screen n).washOrder.map fun o => o.entry) ++ changeEntries s.duty := rfl

/-- The holders are those of the wash orders and of the change order. -/
theorem mem_holders (s : State) (e : Entry) :
    e ∈ holders s ↔ (∃ n o, (s.screen n).washOrder = some o ∧ o.entry = e) ∨
      ∃ o, s.duty.changeOrder = some o ∧ o.entry = e := by
  simp [holders]

theorem holders_congr {s t : State} (hw : ∀ n, (t.screen n).washOrder = (s.screen n).washOrder)
    (hc : t.duty.changeOrder = s.duty.changeOrder) : holders t = holders s := by
  simp only [holders, hw, hc]

/-- The holders with those of one screen in front. -/
theorem holders_perm (s : State) (n : ScreenNo) :
    (holders s).Perm (washEntries (s.screen n) ++
      ((((List.finRange 6).erase n).filterMap fun m => (s.screen m).washOrder.map fun o => o.entry) ++
        changeEntries s.duty)) := by
  have front := (List.perm_cons_erase (List.mem_finRange n)).filterMap fun m => (s.screen m).washOrder.map fun o => o.entry
  rw [holders_eq, ← List.append_assoc]
  refine List.Perm.append_right _ (front.trans ?_)
  rw [List.filterMap_cons]
  unfold washEntries
  cases (s.screen n).washOrder <;> exact List.Perm.refl _

/-- Two states whose holders differ at one screen alone hold the same entries beside that screen's. -/
theorem holders_exchange {s t : State} (n : ScreenNo) (hw : ∀ m, m ≠ n → (t.screen m).washOrder = (s.screen m).washOrder)
    (hc : t.duty.changeOrder = s.duty.changeOrder) :
    (washEntries (t.screen n) ++ holders s).Perm (washEntries (s.screen n) ++ holders t) := by
  have others : (((List.finRange 6).erase n).filterMap fun m => (t.screen m).washOrder.map fun o => o.entry) =
      ((List.finRange 6).erase n).filterMap fun m => (s.screen m).washOrder.map fun o => o.entry :=
    List.filterMap_congr fun m hm => by rw [hw m ((List.Nodup.mem_erase_iff (List.nodup_finRange 6)).mp hm).1]
  have change : changeEntries t.duty = changeEntries s.duty := by unfold changeEntries; rw [hc]
  have ht := holders_perm t n
  rw [others, change] at ht
  refine List.perm_iff_count.mpr fun e => ?_
  have hs := (holders_perm s n).count_eq e
  have ht := ht.count_eq e
  simp only [List.count_append] at hs ht ⊢
  omega

/-! ## What an event owes -/

/-- The exchange in order within an event that still owes the entries `owed` a holder or a completion: with none owed, the first
five terms of `ExchangeInv`. -/
structure Owes (owed : List Entry) (s : State) : Prop where
  wf : Memory.wf s.mem = true
  once : s.intake.Nodup
  posted : ∀ e, e ∈ s.intake ↔ s.hand e = .posted
  heldOnce : (owed ++ holders s).Nodup
  taken : ∀ e, e ∈ owed ++ holders s ↔ (s.hand e = .taken ∨ s.hand e = .cancel)

/-- The exchange in order within an event of a running part. -/
structure Exch (owed : List Entry) (s : State) : Prop extends Owes owed s where
  running : s.phase = .running
  tied : s.duty.changeOrder.isSome = Move.isOrdered s.duty.move

theorem Owes.exchangeInv {s : State} (h : Owes [] s)
    (tied : (s.phase = .running ∨ s.phase = .coldStart) → s.duty.changeOrder.isSome = Move.isOrdered s.duty.move) :
    ExchangeInv s := ⟨h.wf, h.once, h.posted, h.heldOnce, h.taken, tied⟩

theorem Exch.exchangeInv {s : State} (h : Exch [] s) : ExchangeInv s := h.toOwes.exchangeInv fun _ => h.tied

theorem ExchangeInv.owes {s : State} (h : ExchangeInv s) : Owes [] s := by
  obtain ⟨wf, once, posted, heldOnce, taken, -⟩ := h
  exact ⟨wf, once, posted, heldOnce, taken⟩

theorem ExchangeInv.exch {s : State} (h : ExchangeInv s) (hp : s.phase = .running) : Exch [] s := by
  obtain ⟨-, -, -, -, -, tied⟩ := id h
  exact ⟨h.owes, hp, tied (Or.inl hp)⟩

/-- The same memory, hands and queue with the same entries owed or held are in the same order. -/
theorem Owes.of_perm {owed owed' : List Entry} {s t : State} (h : Owes owed s) (hm : t.mem = s.mem) (hh : t.hands = s.hands)
    (hi : t.intake = s.intake) (p : (owed' ++ holders t).Perm (owed ++ holders s)) : Owes owed' t := by
  have hand : ∀ e, t.hand e = s.hand e := fun e => by simp only [State.hand, hh]
  exact ⟨hm ▸ h.wf, hi ▸ h.once, fun e => by rw [hi, hand]; exact h.posted e, p.nodup_iff.mpr h.heldOnce,
    fun e => by rw [p.mem_iff, hand]; exact h.taken e⟩

theorem Quiet.owes {owed : List Entry} {s t : State} (h : Quiet s t) (o : Owes owed s) : Owes owed t :=
  o.of_perm h.mem h.hands h.intake (by rw [holders_congr h.washOrder h.changeOrder])

/-- A quiet event keeps the exchange in order in every phase. -/
theorem Quiet.exchangeInv {s t : State} (h : Quiet s t) (i : ExchangeInv s) : ExchangeInv t := by
  obtain ⟨-, -, -, -, -, tied⟩ := id i
  refine (h.owes i.owes).exchangeInv fun hp => ?_
  rw [h.phase] at hp
  rw [h.changeOrder, h.ordered, tied hp]

/-- A completion settles an entry owed (R13). -/
theorem Owes.complete {owed : List Entry} {s : State} {e : Entry} (h : Owes (e :: owed) s) (tag : Option Word)
    (r : OrderResult) (answers : List Word) : Owes owed (s.complete e tag r answers) := by
  have held : holders (s.complete e tag r answers) = holders s :=
    holders_congr (fun n => by simp only [State.screen, State.complete_screens]) (by rw [State.complete_duty])
  have he : s.hand e = .taken ∨ s.hand e = .cancel := (h.taken e).mp (by simp)
  have once := h.heldOnce
  rw [List.cons_append, List.nodup_cons] at once
  refine ⟨s.complete_wf e tag r answers h.wf, by rw [State.complete_intake]; exact h.once, fun f => ?_, ?_, fun f => ?_⟩
  · rw [State.complete_intake, State.hand_complete, h.posted f]
    by_cases hf : f = e
    · subst hf
      rcases he with he | he <;> simp [he]
    · rw [if_neg hf]
  · rw [held]
    exact once.2
  · rw [held, State.hand_complete]
    by_cases hf : f = e
    · subst hf
      simp only [once.1, if_true, false_iff]
      simp
    · rw [if_neg hf, ← h.taken f, List.cons_append, List.mem_cons]
      simp [hf]

/-- A take owes the entry that leaves the intake queue (R10). -/
theorem Owes.take {owed : List Entry} {s : State} {e : Entry} {rest : List Entry} (h : Owes owed s)
    (hi : s.intake = e :: rest) : Owes (e :: owed) (takenState s e rest) := by
  have once := h.once
  rw [hi, List.nodup_cons] at once
  have posted : s.hand e = .posted := (h.posted e).mp (by rw [hi]; simp)
  have fresh : e ∉ owed ++ holders s := fun he => by
    rcases (h.taken e).mp he with he | he <;> rw [posted] at he <;> cases he
  have hand : ∀ f, (takenState s e rest).hand f = if f = e then .taken else s.hand f := fun f => sel_upd _ e f _
  refine ⟨h.wf, once.2, fun f => ?_, List.nodup_cons.mpr ⟨fresh, h.heldOnce⟩, fun f => ?_⟩
  · rw [hand]
    by_cases hf : f = e
    · subst hf
      simp [once.1]
    · rw [if_neg hf, ← h.posted f, hi]
      simp [hf]
  · rw [hand]
    by_cases hf : f = e
    · subst hf
      simp
    · rw [if_neg hf, ← h.taken f]
      show f ∈ e :: (owed ++ holders s) ↔ _
      simp [hf]

/-! ## Events that pass entries on -/

/-- An event of a running part that leaves the frame and takes the exchange in order, with `owed` owed before it, to the exchange
in order with `owed'` owed after it. -/
structure Passes (owed : List Entry) (s : State) (owed' : List Entry) (t : State) : Prop where
  frame : SameFrame s t
  exch : Exch owed s → Exch owed' t

variable {owed : List Entry}

theorem Passes.trans {a b c : List Entry} {s t u : State} (h : Passes a s b t) (h' : Passes b t c u) : Passes a s c u :=
  ⟨h.frame.trans h'.frame, fun x => h'.exch (h.exch x)⟩

theorem Quiet.passes {s t : State} (h : Quiet s t) : Passes owed s owed t :=
  ⟨h.toSameFrame, fun x => ⟨h.owes x.toOwes, h.phase.trans x.running, by rw [h.changeOrder, h.ordered, x.tied]⟩⟩

theorem Passes.refl (s : State) : Passes owed s owed s := (Quiet.refl s).passes

theorem complete_sameFrame (s : State) (e : Entry) (tag : Option Word) (r : OrderResult) (answers : List Word) :
    SameFrame s (s.complete e tag r answers) := (complete_dutyOnly s e tag r answers).sameFrame

theorem complete_passes (s : State) (e : Entry) (tag : Option Word) (r : OrderResult) (answers : List Word) :
    Passes (e :: owed) s owed (s.complete e tag r answers) :=
  ⟨complete_sameFrame s e tag r answers, fun x =>
    ⟨x.toOwes.complete tag r answers, by rw [State.complete_phase, x.running], by rw [State.complete_duty, x.tied]⟩⟩

/-- The end of an immediate order's take settles its entry (R13). -/
theorem finish_passes (o : WorkingCopy) (s : State) (r : Reply) (h : Passes (o.entry :: owed) s (o.entry :: owed) r.1) :
    Passes (o.entry :: owed) s owed (finish o r) := h.trans (complete_passes _ _ _ _ _)

/-- A take passes the exchange on if its body settles the entry or gives it to a unit (R10). -/
theorem take_passes (s : State) (kind : Option OrderKind) (body : WorkingCopy → State → State)
    (h : ∀ o t, Passes (o.entry :: owed) t owed (body o t)) : Passes owed s owed (s.take kind body) := by
  rcases s.take_cases kind body with ht | ⟨e, rest, hp, hi, -, ht⟩
  · rw [ht]
    exact Passes.refl s
  · rw [ht]
    have taken : Passes owed s (e :: owed) (takenState s e rest) :=
      ⟨⟨rfl, rfl, rfl, rfl⟩, fun x => ⟨x.toOwes.take hi, x.running, x.tied⟩⟩
    exact taken.trans (h (s.copyEntry e) _)

theorem takeImmediate_passes (s : State) (kind : OrderKind) (rule : WorkingCopy → State → Reply)
    (h : ∀ o t, Passes (o.entry :: owed) t (o.entry :: owed) (rule o t).1) :
    Passes owed s owed (s.takeImmediate kind rule) :=
  take_passes s _ _ fun o t => finish_passes o t _ (h o t)

theorem whenRunning_passes (f : State → State) (s : State) (h : Passes owed s owed (f s)) :
    Passes owed s owed (s.whenRunning f) := by
  unfold State.whenRunning
  split
  · exact h
  all_goals exact Passes.refl s

/-! ## The screen unit -/

theorem setScreen_passes (s : State) (n : ScreenNo) (x : Screen) (h : x.washOrder = (s.screen n).washOrder) :
    Passes owed s owed (s.setScreen n x) := (setScreen_quiet s n x h).passes

/-- A screen that drops its wash order owes its completion. -/
theorem withScreen_drops (s : State) (n : ScreenNo) (x : Screen) (w : Wash) (h : x.washOrder = none) :
    Passes owed s (washEntries (s.screen n) ++ owed) (withScreen s n x w) := by
  refine ⟨⟨rfl, rfl, rfl, rfl⟩, fun i => ⟨i.toOwes.of_perm rfl rfl rfl ?_, i.running, i.tied⟩⟩
  have others : ∀ m, m ≠ n → ((withScreen s n x w).screen m).washOrder = (s.screen m).washOrder := fun m hm => by
    show (sel (upd s.screens n x) m).washOrder = _
    rw [sel_upd_ne _ _ _ _ hm]
    rfl
  have dropped : washEntries ((withScreen s n x w).screen n) = [] := by
    show washEntries (sel (upd s.screens n x) n) = []
    rw [sel_upd_same, washEntries, h]
    rfl
  have p := holders_exchange n others (t := withScreen s n x w) rfl
  rw [dropped, List.nil_append] at p
  refine List.perm_iff_count.mpr fun e => ?_
  have count := p.count_eq e
  simp only [List.count_append] at count ⊢
  omega

/-- The completion of the wash order that a record held settles it. -/
theorem completeWash_passes (x : Screen) (r : OrderResult) (s : State) :
    Passes (washEntries x ++ owed) s owed (s.completeWash x r) := by
  unfold State.completeWash washEntries
  cases x.washOrder with
  | none => exact Passes.refl s
  | some o => exact complete_passes s _ _ _ _

/-- A screen whose record is replaced, dropping the wash order that then ends. -/
theorem endOrder_passes (s : State) (n : ScreenNo) (x : Screen) (w : Wash) (r : OrderResult) (h : x.washOrder = none) :
    Passes owed s owed (washOrderEnded (s.screen n) r (withScreen s n x w)) :=
  (withScreen_drops s n x w h).trans (completeWash_passes _ r _)

theorem stallScreen_passes (n : ScreenNo) (s : State) : Passes owed s owed (s.stallScreen n) := by
  rw [stallScreen_eq]
  exact (endOrder_passes s n _ _ _ rfl).trans (setFlag_quiet _ _).passes

/-- A counted wash end in closed form (R121). -/
theorem countedEnd_eq (n : ScreenNo) (s : State) :
    s.countedEnd n =
      let x := s.screen n
      let y := withScreen s n
        { rundownScreen x with
          washCount := min (x.washCount + 1) 65535, lastWashEnd := some s.time.clock.minuteCount, washOrder := none }
        { s.wash with slots := s.wash.slots - 1 }
      washOrderEnded x .ok (if x.intervalRestart then y.sendIntervalRestart n else y) := by
  unfold State.countedEnd
  dsimp only
  rw [endWash_eq]
  have record : (withScreen s n (rundownScreen (s.screen n)) { s.wash with slots := s.wash.slots - 1 }).screen n =
      rundownScreen (s.screen n) := sel_upd_same _ _ _
  rw [record]
  have twice : ∀ y : Screen,
      (withScreen s n (rundownScreen (s.screen n)) { s.wash with slots := s.wash.slots - 1 }).setScreen n y =
        withScreen s n y { s.wash with slots := s.wash.slots - 1 } := fun y => withScreen_withScreen s n _ y _ _
  rw [twice]
  rfl

theorem countedEnd_passes (n : ScreenNo) (s : State) : Passes owed s owed (s.countedEnd n) := by
  have restart : ∀ t : State, Quiet t (if (s.screen n).intervalRestart then t.sendIntervalRestart n else t) := by
    intro t
    split
    · exact Quiet.of_fields rfl
    · exact Quiet.refl t
  rw [countedEnd_eq]
  exact (withScreen_drops s n _ _ rfl).trans ((restart _).passes.trans (completeWash_passes _ _ _))

theorem turn_passes (n : ScreenNo) (s : State) : Passes owed s owed (s.turn n) := by
  unfold State.turn
  dsimp only
  split
  · exact setScreen_passes s n _ rfl
  · have counted : Quiet s (s.setScreen n (s.screen n).countTurn) := setScreen_quiet s n _ rfl
    split
    · split
      · exact setScreen_passes s n _ rfl
      · exact counted.passes.trans (countedEnd_passes n _)
    · exact counted.passes
  all_goals exact Passes.refl s

theorem overload_passes (n : ScreenNo) (s : State) : Passes owed s owed (s.overload n) := by
  unfold State.overload
  split
  · exact stallScreen_passes n s
  · exact Passes.refl s

theorem grantTo_passes (n : ScreenNo) (s : State) : Passes owed s owed (s.grantTo n) := by
  have granted : Quiet s (s.setScreen n (s.screen n).granted) := setScreen_quiet s n _ rfl
  unfold State.grantTo
  dsimp only
  split
  · exact granted.passes.trans (stallScreen_passes n _)
  · exact granted.passes

/-- The records of a cancelled wash, by the state the cancel finds (R130). -/
theorem cancelWash_eq (n : ScreenNo) (s : State) :
    s.cancelWash n =
      let x := s.screen n
      let ends (y : Screen) (w : Wash) :=
        washOrderEnded x .cancelled (withScreen s n { y with washOrder := none } w)
      match x.state with
      | .queued => ends (parkedScreen x) { s.wash with queue := without n s.wash.queue }
      | .starting => ends (rundownScreen x) { s.wash with slots := s.wash.slots - 1 }
      | .washing => ends (rundownScreen x) { s.wash with slots := s.wash.slots - 1 }
      | .rundown => ends { x with again := false, stored := CauseSet.empty } s.wash
      | .parked => s
      | .stalled => s := by
  have dropped : ∀ (y : Screen) (w : Wash),
      (withScreen s n y w).dropWash n = withScreen s n { y with washOrder := none } w := by
    intro y w
    have record : (withScreen s n y w).screen n = y := sel_upd_same _ _ _
    unfold State.dropWash
    rw [record]
    exact withScreen_withScreen s n y _ w w
  unfold State.cancelWash
  dsimp only
  rw [parkQueued_eq, endWash_eq, show s.dropAgain n =
    withScreen s n { s.screen n with again := false, stored := CauseSet.empty } s.wash from rfl]
  simp only [dropped]
  cases (s.screen n).state <;> rfl

theorem cancelWash_passes (n : ScreenNo) (s : State) : Passes owed s owed (s.cancelWash n) := by
  rw [cancelWash_eq]
  dsimp only
  split
  case h_5 | h_6 => exact Passes.refl s
  all_goals exact endOrder_passes s n _ _ _ rfl

/-- The record of a screen taken out of service, its wash ended by its state (R131). -/
def heldScreen (y : Screen) : Screen :=
  { y with service := .held, choked := false, again := false, washOrder := none, stored := CauseSet.empty }

/-- A screen taken out of service, its again mark, its choked mark and its wash order dropped (R131). -/
def outOfService (n : ScreenNo) (s : State) : State :=
  (s.dropAgain n).setScreen n { (s.dropAgain n).screen n with service := .held, choked := false, washOrder := none }

theorem outOfService_eq (n : ScreenNo) (s : State) :
    outOfService n s = withScreen s n (heldScreen (s.screen n)) s.wash := by
  unfold outOfService State.dropAgain
  rw [State.screen_setScreen_same]
  exact withScreen_withScreen s n _ _ s.wash s.wash

theorem outOfService_withScreen (s : State) (n : ScreenNo) (y : Screen) (w : Wash) :
    outOfService n (withScreen s n y w) = withScreen s n (heldScreen y) w := by
  rw [outOfService_eq, show (withScreen s n y w).screen n = y from sel_upd_same _ _ _]
  exact withScreen_withScreen s n y _ w w

/-- What HOLD_SCREEN makes of the screen, by the state it finds (R131). -/
theorem outOfService_holdWash (n : ScreenNo) (s : State) :
    outOfService n (s.holdWash n) =
      let x := s.screen n
      match x.state with
      | .queued => withScreen s n (heldScreen (parkedScreen x)) { s.wash with queue := without n s.wash.queue }
      | .starting => withScreen s n (heldScreen (rundownScreen x)) { s.wash with slots := s.wash.slots - 1 }
      | .washing => withScreen s n (heldScreen (rundownScreen x)) { s.wash with slots := s.wash.slots - 1 }
      | .parked => withScreen s n (heldScreen x) s.wash
      | .rundown => withScreen s n (heldScreen x) s.wash
      | .stalled => withScreen s n (heldScreen x) s.wash := by
  unfold State.holdWash
  rw [parkQueued_eq, endWash_eq]
  dsimp only
  cases (s.screen n).state
  case queued | starting | washing => exact outOfService_withScreen s n _ _
  all_goals exact outOfService_eq n s

/-- HOLD_SCREEN on a fitted screen (R131, R128). -/
theorem holdScreenRule_eq (o : WorkingCopy) (s : State) :
    holdScreenRule o s = forScreen (o.arg 3) s fun n =>
      reply [word (s.screen n).state.code]
        (((outOfService n (s.holdWash n)).completeWash (s.screen n) .overtaken).sendChokeFrom s.chokeState) := rfl

/-- An order about a screen changes nothing unless its screen is fitted. -/
theorem forScreen_passes (w : Word) (s : State) (k : ScreenNo → Reply) (h : ∀ n, Passes owed s owed (k n).1) :
    Passes owed s owed (forScreen w s k).1 := by
  rcases forScreen_cases w s k with hk | hk | ⟨n, -, hk⟩ <;> rw [hk]
  · exact Passes.refl s
  · exact Passes.refl s
  · exact h n

theorem holdScreenRule_passes (o : WorkingCopy) (s : State) : Passes owed s owed (holdScreenRule o s).1 := by
  rw [holdScreenRule_eq]
  refine forScreen_passes _ s _ fun n => Passes.trans ?_ (sendChokeFrom_quiet _ _).passes
  rw [outOfService_holdWash]
  dsimp only
  split <;> exact endOrder_passes s n _ _ _ rfl

theorem acceptWash_passes (o : WorkingCopy) (n : ScreenNo) (s : State) (h : (s.screen n).washOrder = none) :
    Passes (o.entry :: owed) s owed (s.acceptWash o n) := by
  have given : Passes (o.entry :: owed) s owed
      (s.setScreen n { s.screen n with washOrder := some { entry := o.entry, turns := o.num 4, tag := o.tag } }) := by
    refine ⟨⟨rfl, rfl, rfl, rfl⟩, fun i => ⟨i.toOwes.of_perm rfl rfl rfl ?_, i.running, i.tied⟩⟩
    have p := holders_exchange (s := s) n
      (t := s.setScreen n { s.screen n with washOrder := some { entry := o.entry, turns := o.num 4, tag := o.tag } })
      (fun m hm => by rw [State.screen_setScreen, if_neg hm]) rfl
    rw [State.screen_setScreen_same, show washEntries (s.screen n) = [] by rw [washEntries, h]; rfl] at p
    refine List.perm_iff_count.mpr fun e => ?_
    have count := p.count_eq e
    simp only [List.count_append, washEntries, Option.map_some, Option.toList_some, List.nil_append, List.cons_append,
      List.count_cons] at count ⊢
    omega
  have raised : ∀ t : State, Quiet t (t.raiseTurns n (o.num 4)) := by
    intro t
    unfold State.raiseTurns
    dsimp only
    split
    · exact setScreen_quiet t n _ rfl
    · exact Quiet.refl t
  exact given.trans ((request_quiet n .order _).passes.trans (raised _).passes)

theorem washRule_passes (o : WorkingCopy) (s : State) : Passes (o.entry :: owed) s owed (washRule o s) := by
  unfold washRule
  split
  · exact finish_passes o s _ (Passes.refl s)
  · split
    · exact finish_passes o s _ (Passes.refl s)
    · next n _ _ hr =>
      refine acceptWash_passes o n s ?_
      unfold washRefusal at hr
      split at hr
      · cases hr
      · split at hr
        · cases hr
        · split at hr
          · cases hr
          · next h => simpa using h

/-! ## The duty unit -/

/-- A change order that leaves the duty record with its move is owed a completion. -/
theorem setDuty_drops (s : State) (d : Duty) (h : d.changeOrder = none) (h' : Move.isOrdered d.move = false) :
    Passes owed s (changeEntries s.duty ++ owed) (s.setDuty d) := by
  refine ⟨⟨rfl, rfl, rfl, rfl⟩, fun i => ⟨i.toOwes.of_perm rfl rfl rfl ?_, i.running, by simp [h, h']⟩⟩
  have gone : holders (s.setDuty d) = (List.finRange 6).filterMap fun n => (s.screen n).washOrder.map fun o => o.entry := by
    rw [holders_eq, State.setDuty_duty, changeEntries, h]
    exact List.append_nil _
  rw [gone, holders_eq]
  refine List.perm_iff_count.mpr fun e => ?_
  simp only [List.count_append]
  omega

/-- The completion of the change order that leaves the duty record with its move settles it. -/
theorem changeOrderEnded_passes (s : State) (d : Duty) (r : OrderResult) (i o : PumpNo)
    (h : d.changeOrder = s.duty.changeOrder) (h' : Move.isOrdered d.move = false) :
    Passes owed s owed (changeOrderEnded r i o { s with duty := d }) := by
  unfold changeOrderEnded
  dsimp only
  rw [h]
  cases hc : s.duty.changeOrder with
  | none =>
    have drops := setDuty_drops (owed := owed) s d (h.trans hc) h'
    rwa [changeEntries, hc] at drops
  | some c =>
    have drops := setDuty_drops (owed := owed) s { d with changeOrder := none } rfl h'
    rw [changeEntries, hc] at drops
    exact drops.trans (complete_passes _ _ _ _ _)

theorem abandonChange_passes (s : State) (m : Move) (r : OrderResult) (i o : PumpNo) (h : Move.isOrdered m = false) :
    Passes owed s owed (s.abandonChange m r i o) := by
  rw [abandonChange_eq]
  exact changeOrderEnded_passes s _ r i o rfl h

theorem askStart_quiet (s : State) (p : PumpNo) : Quiet s (s.askStart p) := Quiet.of_fields rfl

theorem askStop_quiet (s : State) (p : PumpNo) : Quiet s (s.askStop p) :=
  ⟨⟨rfl, rfl, rfl, rfl⟩, rfl, rfl, rfl, fun _ => rfl, rfl, rfl⟩

/-- A move that is not of origin ORDER may replace another. -/
theorem setMove_quiet (s : State) (m : Move) (h : Move.isOrdered s.duty.move = false) (h' : Move.isOrdered m = false) :
    Quiet s (s.setMove m) := setDuty_quiet s { s.duty with move := m } rfl (h'.trans h.symm)

theorem changeDone_passes (s : State) (i o : PumpNo) : Passes owed s owed (s.changeDone i o) :=
  (askStop_quiet s o).passes.trans
    (changeOrderEnded_passes (s.askStop o) { (s.askStop o).duty with move := .none, savedRoster := none } .ok i o rfl rfl)

theorem endMove_passes (s : State) : Passes owed s owed s.endMove := by
  unfold State.endMove
  split
  · exact Passes.refl s
  · next p hm =>
    have started : Move.isOrdered (s.askStop p).duty.move = false := congrArg Move.isOrdered hm
    exact ((askStop_quiet s p).trans (setMove_quiet _ _ started rfl)).passes
  · exact ((askStop_quiet s _).trans (setFlag_quiet _ _)).passes.trans (abandonChange_passes _ _ _ _ _ rfl)

theorem stopExcess_quiet (s : State) : Quiet s s.stopExcess := Quiet.foldl _ askStop_quiet _ s

/-- A move that is not in flight is of no origin. -/
theorem isOrdered_of_idle {m : Move} (h : m.inFlight = false) : Move.isOrdered m = false := by
  cases m
  case none => rfl
  all_goals cases h

theorem fallShort_quiet (s : State) : Quiet s s.fallShort := by
  unfold State.fallShort
  exact (setDuty_quiet s _ (by rfl) (by rfl)).trans (setFlagIf_quiet _ _ _)

theorem startOne_quiet (s : State) (h : s.duty.move.inFlight = false) : Quiet s s.startOne := by
  unfold State.startOne
  split
  · exact (askStart_quiet s _).trans (setMove_quiet _ _ (isOrdered_of_idle h) rfl)
  · exact fallShort_quiet s

theorem changeOver_quiet (s : State) (h : s.duty.move.inFlight = false) : Quiet s s.changeOver := by
  unfold State.changeOver
  split
  · exact (askStart_quiet s _).trans (setMove_quiet _ _ (isOrdered_of_idle h) rfl)
  · exact Quiet.refl s
  · exact Quiet.refl s

theorem reconcileOnce_passes (s t : State) (h : s.reconcileOnce = some t) : Passes owed s owed t := by
  unfold State.reconcileOnce at h
  split at h
  · cases h
    exact (endMove_passes s).trans (stopExcess_quiet _).passes
  · split at h
    · next hc =>
      cases h
      simp only [Duty.case2, Bool.and_eq_true, Bool.not_eq_true'] at hc
      exact (startOne_quiet s hc.1).passes
    · split at h
      · next hc =>
        cases h
        simp only [Duty.case3, Bool.and_eq_true, Bool.not_eq_true'] at hc
        exact (changeOver_quiet s hc.1.1).passes
      · cases h

theorem applyPending_passes (s : State) : Passes owed s owed s.applyPending := by
  unfold State.applyPending
  split
  · exact (setDuty_quiet s _ (by rfl) (by rfl)).passes
  · have rotated := (setDuty_quiet s { s.duty with rotationPending := false } rfl rfl).trans
      (setDuty_quiet _ { s.duty with rotationPending := false, roster := rotated s.duty.roster } rfl rfl)
    dsimp only
    split
    · next t h => exact rotated.passes.trans (reconcileOnce_passes _ t h)
    · exact rotated.passes

theorem reconcile_passes (s : State) : Passes owed s owed s.reconcile := by
  unfold State.reconcile
  split
  · next t h => exact reconcileOnce_passes s t h
  · split
    · exact applyPending_passes s
    · exact Passes.refl s

theorem settleShortfall_quiet (s : State) : Quiet s s.settleShortfall := by
  unfold State.settleShortfall
  split
  · exact setDuty_quiet s _ (by rfl) (by rfl)
  · exact Quiet.refl s

/-- Steps 3 to 5 of R177 complete the change order where they end its move, and no other. -/
theorem dutyEvent_passes (s : State) (before : Duty) : Passes owed s owed (s.dutyEvent before) := by
  have limited : Quiet s (s.setDuty { s.duty with limit := s.duty.limitOf }) := setDuty_quiet s _ (by rfl) (by rfl)
  unfold State.dutyEvent
  dsimp only
  split
  · exact limited.passes.trans ((reconcile_passes _).trans (settleShortfall_quiet _).passes)
  · exact limited.passes

/-- A change of the duty record that leaves order and move, settled as an event. -/
theorem setDuty_dutyEvent_passes (s : State) (d before : Duty) (h : d.changeOrder = s.duty.changeOrder)
    (h' : d.move = s.duty.move) : Passes owed s owed ((s.setDuty d).dutyEvent before) :=
  (setDuty_quiet s d h (congrArg _ h')).passes.trans (dutyEvent_passes _ before)

theorem incomingReport_passes (r : PumpReport) (mark : Bool) (i o : PumpNo) (s : State) :
    Passes owed s owed (s.incomingReport r mark i o) := by
  unfold State.incomingReport
  split
  · exact changeDone_passes s i o
  · split
    · exact (setFlag_quiet s _).passes.trans (abandonChange_passes _ _ _ _ _ rfl)
    · exact Passes.refl s

theorem moveRules_passes (r : PumpReport) (mark : Bool) (s : State) : Passes owed s owed (s.moveRules r mark) := by
  unfold State.moveRules
  split
  · exact Passes.refl s
  · next p hm =>
    split
    · exact (setMove_quiet s .none (congrArg Move.isOrdered hm) rfl).passes
    · exact Passes.refl s
  · split
    · exact incomingReport_passes r mark _ _ s
    · split
      · exact (setFlag_quiet s _).passes.trans (abandonChange_passes _ _ _ _ _ rfl)
      · exact Passes.refl s

theorem hearReport_passes (r : PumpReport) (s : State) : Passes owed s owed (s.hearReport r) := by
  unfold State.hearReport
  exact (setDuty_quiet s _ (by rfl) (by rfl)).passes.trans ((moveRules_passes r _ _).trans (dutyEvent_passes _ _))

theorem cancelChange_passes (s : State) : Passes owed s owed s.cancelChange := by
  unfold State.cancelChange
  split
  · exact (askStop_quiet s _).passes.trans ((abandonChange_passes _ _ _ _ _ rfl).trans (dutyEvent_passes _ _))
  · exact Passes.refl s
  · exact Passes.refl s

theorem rotate_passes (s : State) : Passes owed s owed s.rotate := by
  unfold State.rotate
  dsimp only
  split
  · exact Passes.refl s
  · split
    · exact (setDuty_quiet s _ (by rfl) (by rfl)).passes
    · exact setDuty_dutyEvent_passes s _ _ (by rfl) (by rfl)

theorem acceptChange_passes (o : WorkingCopy) (outgoing incoming : PumpNo) (s : State)
    (h : s.duty.move.inFlight = false) : Passes (o.entry :: owed) s owed (s.acceptChange o outgoing incoming) := by
  refine Passes.trans (t := (s.askStart incoming).setDuty { s.duty with
    roster := exchanged outgoing incoming s.duty.roster, savedRoster := some s.duty.roster
    move := .change incoming outgoing .order, changeOrder := some { entry := o.entry, tag := o.tag } })
    ⟨⟨rfl, rfl, rfl, rfl⟩, fun i => ⟨i.toOwes.of_perm rfl rfl rfl ?_, i.running, rfl⟩⟩ (dutyEvent_passes _ _)
  have none : s.duty.changeOrder = none := by
    have tied := i.tied
    rw [isOrdered_of_idle h] at tied
    simpa using tied
  have before : holders s = (List.finRange 6).filterMap (fun n => (s.screen n).washOrder.map fun o => o.entry) ++ [] := by
    rw [holders_eq, changeEntries, none]
    rfl
  rw [before, List.append_nil, List.cons_append]
  exact List.Perm.trans ((List.perm_append_singleton o.entry _).append_left owed) List.perm_middle

theorem changeRule_passes (o : WorkingCopy) (s : State) : Passes (o.entry :: owed) s owed (changeRule o s) := by
  unfold changeRule
  split
  · exact finish_passes o s _ (Passes.refl s)
  · split
    · exact finish_passes o s _ (Passes.refl s)
    · next hr =>
      refine acceptChange_passes o _ _ s ?_
      unfold changeRefusal at hr
      split at hr
      · cases hr
      · split at hr
        · cases hr
        · next hm => simpa using hm

/-! ## Rules of the immediate orders -/

theorem forPump_passes (w : Word) (s : State) (k : PumpNo → Reply) (h : ∀ p, Passes owed s owed (k p).1) :
    Passes owed s owed (forPump w s k).1 := by
  rcases forPump_cases w s k with hk | hk | ⟨n, -, hk⟩ <;> rw [hk]
  · exact Passes.refl s
  · exact Passes.refl s
  · exact h n

theorem forSixteen_passes (w : Word) (s : State) (k : Fin 16 → Reply) (h : ∀ i, Passes owed s owed (k i).1) :
    Passes owed s owed (forSixteen w s k).1 := by
  rcases forSixteen_cases w s k with hk | ⟨n, hk⟩ <;> rw [hk]
  · exact Passes.refl s
  · exact h n

/-- A rule that refuses or answers, by a condition. -/
theorem ite_passes {c : Prop} [Decidable c] (s : State) (a b : Reply) (ha : Passes owed s owed a.1)
    (hb : Passes owed s owed b.1) : Passes owed s owed (if c then a else b).1 := by
  split
  · exact ha
  · exact hb

theorem setTimeRule_passes (o : WorkingCopy) (s : State) : Passes owed s owed (setTimeRule o s).1 :=
  ite_passes s _ _ (Quiet.of_fields rfl).passes (Passes.refl s)

theorem rewriteTimer_passes (t : TimerNo) (o : TimerOwner) (u : TickUnit) (preset : Nat) (start : Bool) (s : State) :
    Passes owed s owed (rewriteTimer t o u preset start s).1 :=
  ite_passes s _ _ (Passes.refl s) (Quiet.of_fields rfl).passes

theorem setTimerRule_passes (o : WorkingCopy) (s : State) : Passes owed s owed (setTimerRule o s).1 := by
  refine forSixteen_passes _ s _ fun t => ite_passes s _ _ (Passes.refl s) ?_
  split
  · exact Passes.refl s
  · refine ite_passes s _ _ (Passes.refl s) (ite_passes s _ _ (Quiet.of_fields rfl).passes ?_)
    split
    · exact Passes.refl s
    · unfold rewriteChecked
      split
      · exact rewriteTimer_passes _ _ _ _ _ s
      · exact forScreen_passes _ s _ fun n => rewriteTimer_passes _ _ _ _ _ s
      · exact rewriteTimer_passes _ _ _ _ _ s
      · exact rewriteTimer_passes _ _ _ _ _ s

theorem stopTimerRule_passes (o : WorkingCopy) (s : State) : Passes owed s owed (stopTimerRule o s).1 :=
  forSixteen_passes _ s _ fun _ => (Quiet.of_fields rfl).passes

theorem setChannelRule_passes (o : WorkingCopy) (s : State) : Passes owed s owed (setChannelRule o s).1 :=
  forSixteen_passes _ s _ fun _ => ite_passes s _ _ (Quiet.of_fields rfl).passes (Passes.refl s)

theorem setSeaRule_passes (o : WorkingCopy) (s : State) : Passes owed s owed (setSeaRule o s).1 :=
  ite_passes s _ _ (Quiet.of_fields rfl).passes (Passes.refl s)

theorem loadTideRule_passes (o : WorkingCopy) (s : State) : Passes owed s owed (loadTideRule o s).1 := by
  refine ite_passes s _ _ (Passes.refl s) (ite_passes s _ _ (Passes.refl s) ?_)
  split
  · exact Passes.refl s
  · exact (Quiet.of_fields rfl).passes

theorem swapTideRule_passes (o : WorkingCopy) (s : State) : Passes owed s owed (swapTideRule o s).1 :=
  ite_passes s _ _ (Passes.refl s) ((recompute_quiet _ s).trans (Quiet.of_fields rfl)).passes

theorem takeSwap_passes (s : State) : Passes owed s owed s.takeSwap := by
  unfold State.takeSwap
  split
  · exact Passes.refl s
  · exact takeImmediate_passes s _ _ fun o t => swapTideRule_passes o t

theorem setAlarmRule_passes (o : WorkingCopy) (s : State) : Passes owed s owed (setAlarmRule o s).1 := by
  refine forSixteen_passes _ s _ fun i => ?_
  split
  · exact Passes.refl s
  · refine ite_passes s _ _ (Passes.refl s) (Quiet.passes ?_)
    exact Quiet.trans (Quiet.of_fields rfl) (sendActionChangeFrom_quiet _ _)

theorem ackAlarmRule_passes (o : WorkingCopy) (s : State) : Passes owed s owed (ackAlarmRule o s).1 :=
  (Quiet.of_fields rfl).passes

theorem releaseScreenRule_passes (o : WorkingCopy) (s : State) : Passes owed s owed (releaseScreenRule o s).1 :=
  forScreen_passes _ s _ fun _ => setScreen_passes s _ _ rfl

theorem resetScreenRule_passes (o : WorkingCopy) (s : State) : Passes owed s owed (resetScreenRule o s).1 :=
  forScreen_passes _ s _ fun _ => ite_passes s _ _ (Passes.refl s) (setScreen_passes s _ _ rfl)

theorem setScreenRule_passes (o : WorkingCopy) (s : State) : Passes owed s owed (setScreenRule o s).1 := by
  refine forScreen_passes _ s _ fun n => ?_
  split
  · exact Passes.refl s
  · exact ite_passes s _ _ (setScreen_passes s _ _ rfl) (Passes.refl s)

theorem setWashRule_passes (o : WorkingCopy) (s : State) : Passes owed s owed (setWashRule o s).1 :=
  ite_passes s _ _ (Passes.refl s) (ite_passes s _ _ (Passes.refl s) (Quiet.of_fields rfl).passes)

theorem holdPumpRule_passes (o : WorkingCopy) (s : State) : Passes owed s owed (holdPumpRule o s).1 := by
  refine forPump_passes _ s _ fun p => ?_
  dsimp only [reply]
  exact (pumpEvent_quiet p _ s).passes

theorem releasePumpRule_passes (o : WorkingCopy) (s : State) : Passes owed s owed (releasePumpRule o s).1 := by
  refine forPump_passes _ s _ fun p => ?_
  dsimp only [reply]
  exact (pumpEvent_quiet p _ s).passes

theorem resetPumpRule_passes (o : WorkingCopy) (s : State) : Passes owed s owed (resetPumpRule o s).1 :=
  forPump_passes _ s _ fun p => ite_passes s _ _ (Passes.refl s) (pumpEvent_quiet p _ s).passes

theorem setPumpRule_passes (o : WorkingCopy) (s : State) : Passes owed s owed (setPumpRule o s).1 := by
  refine forPump_passes _ s _ fun p => ite_passes s _ _ ?_ (Passes.refl s)
  dsimp only [reply]
  exact (pumpEvent_quiet p _ s).passes

theorem setDemandRule_passes (o : WorkingCopy) (s : State) : Passes owed s owed (setDemandRule o s).1 := by
  unfold setDemandRule
  split
  · exact Passes.refl s
  · split
    · exact Passes.refl s
    · exact setDuty_dutyEvent_passes s { s.duty with demand := o.num 3 } _ rfl rfl

theorem setChokeRule_passes (o : WorkingCopy) (s : State) : Passes owed s owed (setChokeRule o s).1 := by
  unfold setChokeRule
  split
  · exact Passes.refl s
  · split
    · exact Passes.refl s
    · exact setDuty_dutyEvent_passes s { s.duty with chokeLimit := o.num 3 } _ rfl rfl

theorem setRosterRule_passes (o : WorkingCopy) (s : State) : Passes owed s owed (setRosterRule o s).1 := by
  unfold setRosterRule
  split
  · exact Passes.refl s
  · split
    · exact Passes.refl s
    · split
      · exact Passes.refl s
      · next ps _ =>
        exact ite_passes s _ _ (Passes.refl s) (ite_passes s _ _ (Passes.refl s)
          (setDuty_dutyEvent_passes s { s.duty with roster := ps } _ rfl rfl))

theorem lockDutyRule_passes (o : WorkingCopy) (s : State) : Passes owed s owed (lockDutyRule o s).1 :=
  (setDuty_quiet s _ (by rfl) (by rfl)).passes

end Sys2Proof
end


/-!
# Snapshots and host writes

The two ways into exchange memory beside a completion: the words of an accepted snapshot and the writes of the host.
-/

section
namespace Sys2Proof

open Sys2Proof.Machine

/-! ## The size of a snapshot (R26) -/

@[simp] theorem instantWords_length (t : Option Nat) : (instantWords t).length = 2 := by cases t <;> rfl

@[simp] theorem waterWords_length (w : Option (Nat × Int)) : (waterWords w).length = 3 := by cases w <;> rfl

@[simp] theorem tideEvent_words_length (e : TideEvent) : e.words.length = 4 := rfl

@[simp] theorem rosterWords_length (r : List PumpNo) : (rosterWords r).length = 2 := rfl

@[simp] theorem headerBlock_length (s : State) (mask : Word) : (s.headerBlock mask).length = 8 := rfl

@[simp] theorem channelBlock_length (c : Channel) : c.block.length = 4 := rfl

@[simp] theorem alarmBlock_length (floor : Option Nat) (hold : Bool) (a : Alarm) : (a.block floor hold).length = 8 := by
  simp [Alarm.block]

@[simp] theorem seaBlock_length (s : State) : s.seaBlock.length = 8 := by
  have ends : s.historyEnds.length = 2 := by
    unfold State.historyEnds
    split <;> rfl
  simp [State.seaBlock, ends]

@[simp] theorem washBlock_length (s : State) : s.washBlock.length = 12 := rfl

@[simp] theorem screenBlock_length (s : State) (n : ScreenNo) : (s.screenBlock n).length = 12 := by
  simp [State.screenBlock]

@[simp] theorem dutyBlock_length (s : State) : s.dutyBlock.length = 12 := by
  have move : s.moveWords.length = 2 := by
    unfold State.moveWords
    split <;> rfl
  have saved : s.duty.savedWords.length = 2 := by
    unfold Duty.savedWords
    split <;> rfl
  simp [State.dutyBlock, move, saved]

@[simp] theorem pumpBlock_length (s : State) (p : PumpNo) : (s.pumpBlock p).length = 12 := rfl

@[simp] theorem timerBlock_length (s : State) (t : TimerNo) : (s.timerBlock t).length = 4 := rfl

@[simp] theorem tideSection_length (t : Tide) : t.section.length = 8 + 4 * t.liveEdition.length := by
  simp [Tide.section, List.length_flatMap]
  omega

/-- How many of six records a fitted count fits. -/
theorem fitted_length (k : Nat) : (indices fun n : Fin 6 => decide (n.1 < k)).length = min k 6 := by
  by_cases h : k < 6
  · interval_cases k <;> rfl
  · have all : (indices fun n : Fin 6 => decide (n.1 < k)) = List.finRange 6 :=
      List.filter_eq_self.mpr fun n _ => by simp; omega
    rw [all, List.length_finRange]
    omega

theorem fittedScreenList_length (s : State) : s.fittedScreenList.length = min s.fittedScreens 6 :=
  fitted_length s.fittedScreens

theorem fittedPumpList_length (s : State) : s.fittedPumpList.length = min s.fittedPumps 6 :=
  fitted_length s.fittedPumps

/-- A section is as long as R26 sizes it, up to six screens and six pumps. -/
theorem sectionWords_length (s : State) (x : Section) :
    (s.sectionWords x).length ≤ s.sectionSize x ∧
      (s.fittedScreens ≤ 6 → s.fittedPumps ≤ 6 → (s.sectionWords x).length = s.sectionSize x) := by
  have screens := fittedScreenList_length s
  have pumps := fittedPumpList_length s
  cases x <;> simp [State.sectionWords, State.sectionSize, List.length_flatMap, screens, pumps] <;> omega

/-- A snapshot is as long as R26 sizes it, up to six screens and six pumps. -/
theorem snapshotWords_length (s : State) (mask : Word) :
    (s.snapshotWords mask).length ≤ s.snapshotSize mask ∧
      (s.fittedScreens ≤ 6 → s.fittedPumps ≤ 6 → (s.snapshotWords mask).length = s.snapshotSize mask) := by
  have sections : ∀ l : List Section, ((l.flatMap s.sectionWords).length ≤ (l.map s.sectionSize).sum) ∧
      (s.fittedScreens ≤ 6 → s.fittedPumps ≤ 6 → (l.flatMap s.sectionWords).length = (l.map s.sectionSize).sum) := by
    intro l
    induction l with
    | nil => simp
    | cons x l ih =>
      obtain ⟨le, eq⟩ := sectionWords_length s x
      simp only [List.flatMap_cons, List.length_append, List.map_cons, List.sum_cons]
      exact ⟨Nat.add_le_add le ih.1, fun hs hp => by rw [eq hs hp, ih.2 hs hp]⟩
  obtain ⟨le, eq⟩ := sections (selected mask)
  unfold State.snapshotWords State.snapshotSize
  rw [List.length_append, headerBlock_length]
  exact ⟨Nat.add_le_add_left le 8, fun hs hp => by rw [eq hs hp]⟩

/-- The words of an accepted snapshot lie in the bulk area (R27). -/
theorem snapshot_ok (s : State) (a size : Nat) (mask : Word) (h : bulkStart ≤ a) (h' : a + size ≤ memEnd)
    (hs : s.snapshotSize mask ≤ size) (i : Nat) (hi : i < (s.snapshotWords mask).length) :
    a + i < 16384 ∧ isHandAddr (a + i) = false := by
  have := (snapshotWords_length s mask).1
  exact bulkAddr_ok (a + i) (by omega) (by omega)

theorem snapshotRule_passes {owed : List Entry} (o : WorkingCopy) (s : State) :
    Passes owed s owed (snapshotRule o s).1 := by
  unfold snapshotRule
  refine ite_passes s _ _ (Passes.refl s) ?_
  split
  · exact Passes.refl s
  · next ha =>
    split
    · exact Passes.refl s
    · next hs =>
      have area : ∀ i, i < (s.snapshotWords (o.arg 3)).length → o.num 4 + i < 16384 ∧ isHandAddr (o.num 4 + i) = false :=
        snapshot_ok s (o.num 4) (o.num 5) (o.arg 3) (by omega) (by omega) (by omega)
      dsimp only [reply]
      rw [State.writeWords_frame]
      refine ⟨⟨rfl, rfl, rfl, rfl⟩, fun x => ⟨⟨?_, x.once, x.posted, x.heldOnce, x.taken⟩, x.running, x.tied⟩⟩
      exact State.writeWords_wf _ _ _ x.wf area

/-! ## Host writes (R1, R3, R4) -/

/-- A word of exchange memory written anywhere but on a hand. -/
theorem writeWord_passes {owed : List Entry} (s : State) (a : Nat) (w : Word) (h : a < 16384)
    (h' : isHandAddr a = false) : Passes owed s owed (s.writeWord a w) :=
  ⟨⟨rfl, rfl, rfl, rfl⟩, fun x =>
    ⟨⟨Memory.write_wf _ _ _ h h' x.wf, x.once, x.posted, x.heldOnce, x.taken⟩, x.running, x.tied⟩⟩

theorem exchangeFault_quiet (s : State) (k : FaultKind) (i : Entry) (o : Fin 32) : Quiet s (s.exchangeFault k i o) :=
  Quiet.of_fields rfl

/-- The hands after one is set; what the units hold stands. -/
theorem Owes.setHand {s t : State} {e : Entry} {x : Hand} {owed : List Entry} (h : Owes owed s)
    (hm : t.mem = s.mem) (hh : t.hands = upd s.hands e x) (once : t.intake.Nodup)
    (hi : ∀ f, f ∈ t.intake ↔ if f = e then x = .posted else f ∈ s.intake) (held : holders t = holders s)
    (hx : (x = .taken ∨ x = .cancel) ↔ (s.hand e = .taken ∨ s.hand e = .cancel)) : Owes owed t := by
  have hand : ∀ f, t.hand f = if f = e then x else s.hand f := fun f => by
    rw [State.hand, hh]
    exact sel_upd _ e f x
  refine ⟨hm ▸ h.wf, once, fun f => ?_, held ▸ h.heldOnce, fun f => ?_⟩
  · rw [hi, hand, h.posted]
    split <;> rfl
  · rw [held, hand, h.taken]
    split
    · next hf => rw [hf, hx]
    · rfl

theorem arrive_passes {owed : List Entry} (s : State) (e : Entry) (h : s.hand e = .free) :
    Passes owed s owed (s.arrive e) := by
  refine ⟨⟨rfl, rfl, rfl, rfl⟩, fun x =>
    ⟨x.toOwes.setHand rfl rfl ?_ (fun f => ?_) rfl (by simp [h]), x.running, x.tied⟩⟩
  · refine List.Nodup.append x.once (List.nodup_singleton e) ?_
    simp [x.posted, h]
  · show f ∈ s.intake ++ [e] ↔ _
    by_cases hf : f = e <;> simp [hf]

theorem withdraw_passes {owed : List Entry} (s : State) (e : Entry) (h : s.hand e = .posted) :
    Passes owed s owed (s.withdraw e) := by
  refine ⟨⟨rfl, rfl, rfl, rfl⟩, fun x =>
    ⟨x.toOwes.setHand rfl rfl (x.once.filter _) (fun f => ?_) rfl (by simp [h]), x.running, x.tied⟩⟩
  show f ∈ s.intake.filter (fun x => x != e) ↔ _
  by_cases hf : f = e <;> simp [hf]

/-- A hand that is set between values that stand for the same place of its order. -/
theorem setHand_passes {owed : List Entry} (s : State) (e : Entry) (x : Hand) (h : s.hand e ≠ .posted) (h' : x ≠ .posted)
    (hx : (x = .taken ∨ x = .cancel) ↔ (s.hand e = .taken ∨ s.hand e = .cancel)) :
    Passes owed s owed (s.setHand e x) := by
  refine ⟨⟨rfl, rfl, rfl, rfl⟩, fun i => ⟨i.toOwes.setHand rfl rfl i.once (fun f => ?_) rfl hx, i.running, i.tied⟩⟩
  split
  · next hf => simp [hf, i.posted, h, h']
  · rfl

theorem sendCancel_quiet (e : Entry) (s : State) : Quiet s (s.sendCancel e) := Quiet.of_fields rfl

/-- The hand check keeps the exchange in order (R4 to R8). -/
theorem writeHand_passes {owed : List Entry} (e : Entry) (w : Word) (s : State) : Passes owed s owed (s.writeHand e w) := by
  unfold State.writeHand handCheck
  cases Hand.ofWord w with
  | none => exact (exchangeFault_quiet s _ _ _).passes
  | some x =>
    cases hs : s.hand e <;> cases x
    case free.posted => exact arrive_passes s e hs
    case posted.free => exact withdraw_passes s e hs
    case done.free => exact setHand_passes s e .free (by simp [hs]) (by simp) (by simp [hs])
    case taken.cancel =>
      exact (setHand_passes s e .cancel (by simp [hs]) (by simp) (by simp [hs])).trans (sendCancel_quiet e _).passes
    case free.free | posted.posted | posted.cancel | taken.free | taken.taken | done.done | done.cancel | cancel.free |
        cancel.cancel => exact Passes.refl s
    all_goals exact (exchangeFault_quiet s _ _ _).passes

theorem writeEntryWord_passes {owed : List Entry} (e : Entry) (o : Fin 32) (w : Word) (s : State)
    (h : isHandAddr (entryAddr e o.1) = false) : Passes owed s owed (s.writeEntryWord e o w) := by
  have inside : entryAddr e o.1 < 16384 := by
    have := e.isLt
    have := o.isLt
    unfold entryAddr
    omega
  unfold State.writeEntryWord
  split
  · exact writeWord_passes s _ w inside h
  · exact writeWord_passes s _ w inside h
  · exact writeWord_passes s _ w inside h
  · exact (exchangeFault_quiet s _ _ _).passes
  · exact (exchangeFault_quiet s _ _ _).passes

/-- The address of a word of the order table, of its entry and offset. -/
theorem entryAddr_of (a : Nat) (h : a < 1024) : entryAddr (entryOf a) (offsetOf a).1 = a := by
  show 32 * (a / 32 % 32) + a % 32 = a
  omega

theorem hostWrite_passes {owed : List Entry} (a : Addr) (w : Word) (s : State) : Passes owed s owed (s.hostWrite a w) := by
  refine whenRunning_passes _ s ?_
  have ha := a.isLt
  split
  · next h =>
    obtain ⟨inside, plain⟩ := bulkAddr_ok a.toNat h ha
    exact writeWord_passes s _ w inside plain
  · next hb =>
    split
    · exact writeHand_passes _ w s
    · next h =>
      refine writeEntryWord_passes _ _ w s ?_
      rw [entryAddr_of a.toNat (by unfold bulkStart at hb; omega)]
      simpa using h

end Sys2Proof
end


/-!
# Every command but power and RESET_N

Each command passes the entries on in a running part (`exec_passes`), and those of the running part alone do nothing in any
other phase (`exec_idle`).
-/

section
namespace Sys2Proof

open Sys2Proof.Machine

/-! ## Events delivered in a running part: nothing without the message, else its effect -/

variable {owed : List Entry}

theorem minuteEventTide_quiet (s : State) : Quiet s s.minuteEventTide := by
  refine whenRunning_quiet _ s ?_
  split
  · exact (wires_quiet s _).trans (recompute_quiet _ _)
  · exact Quiet.refl s

theorem timeSetEventTide_quiet (s : State) : Quiet s s.timeSetEventTide := by
  refine whenRunning_quiet _ s ?_
  split
  · exact (wires_quiet s _).trans (recompute_quiet _ _)
  · exact Quiet.refl s

theorem suspectChangeEventTide_quiet (s : State) : Quiet s s.suspectChangeEventTide := by
  refine whenRunning_quiet _ s ?_
  split
  · exact (wires_quiet s _).trans (recompute_quiet _ _)
  · exact Quiet.refl s

theorem minuteEventLevel_quiet (s : State) : Quiet s s.minuteEventLevel := by
  refine whenRunning_quiet _ s ?_
  split
  · exact Quiet.of_fields rfl
  · exact Quiet.refl s

theorem timeSetEventLevel_quiet (s : State) : Quiet s s.timeSetEventLevel := by
  refine whenRunning_quiet _ s ?_
  split
  · exact Quiet.of_fields rfl
  · exact Quiet.refl s

theorem minuteEventAlarm_quiet (s : State) : Quiet s s.minuteEventAlarm := by
  refine whenRunning_quiet _ s ?_
  split
  · exact (wires_quiet s _).trans (alarmEvent_quiet _ _ _)
  · exact Quiet.refl s

theorem timeSetEventAlarm_quiet (s : State) : Quiet s s.timeSetEventAlarm := by
  refine whenRunning_quiet _ s ?_
  split
  · exact (wires_quiet s _).trans (alarmEvent_quiet _ _ _)
  · exact Quiet.refl s

theorem suspectChangeEventAlarm_quiet (s : State) : Quiet s s.suspectChangeEventAlarm := by
  refine whenRunning_quiet _ s ?_
  split
  · exact (wires_quiet s _).trans (alarmEvent_quiet _ _ _)
  · exact Quiet.refl s

theorem editionChangeEvent_quiet (s : State) : Quiet s s.editionChangeEvent := by
  refine whenRunning_quiet _ s ?_
  split
  · exact Quiet.refl s
  · exact (wires_quiet s _).trans (alarmEvent_quiet _ _ _)

theorem seaReport_quiet (s : State) : Quiet s s.seaReport := by
  refine whenRunning_quiet _ s ?_
  split
  · exact Quiet.refl s
  · exact (wires_quiet s _).trans (alarmEvent_quiet _ _ _)

theorem rateReport_quiet (s : State) : Quiet s s.rateReport := by
  refine whenRunning_quiet _ s ?_
  split
  · exact Quiet.refl s
  · exact (wires_quiet s _).trans (alarmEvent_quiet _ _ _)

theorem scanCompletion_quiet (codes : Vector RawCode 16) (s : State) : Quiet s (s.scanCompletion codes) := by
  refine whenRunning_quiet _ s ?_
  have scanned : ∀ level : Level, Quiet s { s with level := level } := fun _ => Quiet.of_fields rfl
  have sent : ∀ t : State, Quiet t t.sendScan := fun _ => Quiet.of_fields rfl
  exact (scanned _).trans ((setFlagIf_quiet _ _ _).trans (sent _))

theorem unitTick_quiet (s : State) : Quiet s s.unitTick := by
  refine whenRunning_quiet _ s ?_
  split
  · exact Quiet.refl s
  · exact Quiet.of_fields rfl

theorem timerExpiry_quiet (t : TimerNo) (s : State) : Quiet s (s.timerExpiry t) := by
  refine whenRunning_quiet _ s ?_
  split
  · exact Quiet.refl s
  · exact (wires_quiet s _).trans (stepTimer_quiet _ _ _)

theorem intervalRestart_quiet (n : ScreenNo) (s : State) : Quiet s (s.intervalRestart n) := by
  refine whenRunning_quiet _ s ?_
  split
  · exact Quiet.refl s
  · exact (wires_quiet s _).trans (reloadInterval_quiet _ _)

theorem differentialReport_quiet (s : State) : Quiet s s.differentialReport := by
  refine whenRunning_quiet _ s ?_
  split
  · exact Quiet.refl s
  · exact (wires_quiet s _).trans
      ((Quiet.foldl _ (fun t (m : ScreenNo × Differential) => differentialAt_quiet m.1 m.2 t) _ _).trans
        (sendChokeFrom_quiet _ _))

theorem wReport_quiet (s : State) : Quiet s s.wReport := by
  refine whenRunning_quiet _ s ?_
  split
  · exact Quiet.refl s
  · have heard : ∀ (t : State) (w : Measure), Quiet t (t.hearW w) := fun _ _ => Quiet.of_fields rfl
    exact (wires_quiet s _).trans ((heard _ _).trans ((settlePumps_quiet _ _ _).trans (setFlagIf_quiet _ _ _)))

theorem wReportDuty_quiet (s : State) : Quiet s s.wReportDuty := by
  refine whenRunning_quiet _ s ?_
  split
  · exact Quiet.refl s
  · exact (wires_quiet s _).trans (setDuty_quiet _ _ (by rfl) (by rfl))

theorem hReport_quiet (s : State) : Quiet s s.hReport := by
  refine whenRunning_quiet _ s ?_
  split
  · exact Quiet.refl s
  · have heard : ∀ (t : State) (w : Wash), Quiet t (t.setWash w) := fun _ _ => Quiet.of_fields rfl
    dsimp only
    split
    · exact (wires_quiet s _).trans ((heard _ _).trans (suspend_quiet _))
    · exact (wires_quiet s _).trans (heard _ _)

theorem runningPumpReport_quiet (s : State) : Quiet s s.runningPumpReport := by
  refine whenRunning_quiet _ s ?_
  split
  · exact Quiet.refl s
  · exact Quiet.of_fields rfl

theorem washRequest_quiet (n : ScreenNo) (s : State) : Quiet s (s.washRequest n) := by
  refine whenRunning_quiet _ s ?_
  split
  · exact Quiet.refl s
  · dsimp only
    split
    · exact (wires_quiet s _).trans (request_quiet _ _ _)
    · exact wires_quiet s _

theorem rundownExpiry_quiet (n : ScreenNo) (s : State) : Quiet s (s.rundownExpiry n) := by
  refine whenRunning_quiet _ s ?_
  split
  · exact endRundown_quiet n s
  · exact Quiet.refl s

theorem startRequest_quiet (s : State) : Quiet s s.startRequest := by
  refine whenRunning_quiet _ s ?_
  split
  · exact (wires_quiet s _).trans (start_quiet _ _)
  · exact Quiet.refl s

theorem stopRequest_quiet (s : State) : Quiet s s.stopRequest := by
  refine whenRunning_quiet _ s ?_
  split
  · exact (wires_quiet s _).trans (pumpEvent_quiet _ _ _)
  · exact Quiet.refl s

/-- The expiry of a pump's watch, due or not. -/
theorem expiry_quiet (c : Bool) (f : State → State) (s : State) (h : Quiet s (f s)) :
    Quiet s (s.whenRunning fun s => if c then f s else s) := by
  refine whenRunning_quiet _ s ?_
  split
  · exact h
  · exact Quiet.refl s

theorem grant_passes (s : State) : Passes owed s owed s.grant := by
  refine whenRunning_passes _ s ?_
  have granted : ∀ w : Wash, Quiet s (s.setWash w) := fun _ => Quiet.of_fields rfl
  split
  · split
    · exact Passes.refl s
    · exact (granted _).passes.trans (grantTo_passes _ _)
  · exact Passes.refl s

theorem turnWatchExpiry_passes (n : ScreenNo) (s : State) : Passes owed s owed (s.turnWatchExpiry n) := by
  refine whenRunning_passes _ s ?_
  split
  · exact stallScreen_passes n s
  · exact Passes.refl s

theorem washCancel_passes (n : ScreenNo) (s : State) : Passes owed s owed (s.washCancel n) := by
  refine whenRunning_passes _ s ?_
  split
  · exact Passes.refl s
  · dsimp only
    split
    · exact (wires_quiet s _).passes.trans (cancelWash_passes _ _)
    · exact (wires_quiet s _).passes

theorem chokeChangeEvent_passes (s : State) : Passes owed s owed s.chokeChangeEvent := by
  refine whenRunning_passes _ s ?_
  split
  · exact Passes.refl s
  · exact (wires_quiet s _).passes.trans (setDuty_dutyEvent_passes _ _ _ (by rfl) (by rfl))

theorem actionChangeEvent_passes (s : State) : Passes owed s owed s.actionChangeEvent := by
  refine whenRunning_passes _ s ?_
  split
  · exact Passes.refl s
  · exact (wires_quiet s _).passes.trans (setDuty_dutyEvent_passes _ _ _ (by rfl) (by rfl))

theorem pumpChangeReport_passes (s : State) : Passes owed s owed s.pumpChangeReport := by
  refine whenRunning_passes _ s ?_
  split
  · exact Passes.refl s
  · exact (wires_quiet s _).passes.trans (hearReport_passes _ _)

theorem changeCancel_passes (s : State) : Passes owed s owed s.changeCancel := by
  refine whenRunning_passes _ s ?_
  split
  · exact Passes.refl s
  · dsimp only
    split
    · exact (wires_quiet s _).passes.trans (cancelChange_passes _)
    · exact (wires_quiet s _).passes

theorem rotationExpiry_passes (s : State) : Passes owed s owed s.rotationExpiry := by
  refine whenRunning_passes _ s ?_
  split
  · exact Passes.refl s
  · exact (wires_quiet s _).passes.trans (rotate_passes _)

/-! ## Field lines and the clock, in every phase -/

/-- A screen's field line, in a running part. -/
theorem line_passes (fitted old level : Bool) (store event : State → State) (s : State) (hs : Quiet s (store s))
    (he : ∀ t, Passes owed t owed (event t)) : Passes owed s owed (s.line fitted old level store event) := by
  unfold State.line
  split
  · split
    · exact Passes.refl s
    · exact Passes.refl s
    · exact hs.passes
    · split
      · exact hs.passes.trans (he _)
      · exact hs.passes
  · exact Passes.refl s

theorem turnEdge_passes (n : ScreenNo) (level : Bool) (s : State) : Passes owed s owed (s.turnEdge n level) :=
  line_passes _ _ _ _ _ s (setScreen_quiet s n _ (by rfl)) (turn_passes n)

theorem overloadEvent_passes (n : ScreenNo) (level : Bool) (s : State) : Passes owed s owed (s.overloadEvent n level) :=
  line_passes _ _ _ _ _ s (setScreen_quiet s n _ (by rfl)) (overload_passes n)

theorem crystalConfirmed_quiet (s : State) : Quiet s s.crystalConfirmed := by
  unfold State.crystalConfirmed
  split <;> exact Quiet.of_fields rfl

theorem confirmRestart_quiet (s : State) : Quiet s s.confirmRestart := by
  unfold State.confirmRestart
  split <;> exact Quiet.of_fields rfl

theorem crystalFailure_quiet (s : State) : Quiet s s.crystalFailure := by
  unfold State.crystalFailure
  split
  · split
    · exact Quiet.refl s
    · exact Quiet.of_fields rfl
    · dsimp only
      split <;> exact Quiet.of_fields rfl
    · exact Quiet.of_fields rfl
  · split <;> exact Quiet.of_fields rfl

theorem sourceCycle_quiet (s : State) : Quiet s s.sourceCycle := by
  unfold State.sourceCycle
  split <;> exact Quiet.of_fields rfl

theorem secondStep_quiet (s : State) : Quiet s s.secondStep := by
  have counted : Quiet s s.stepClock.secondAtPumps := Quiet.of_fields rfl
  unfold State.secondStep
  split
  · exact Quiet.refl s
  · exact Quiet.of_fields rfl
  · exact counted
  · have screens : ∀ t : State, Quiet t t.secondAtScreens := fun t => screens_quiet t _ t.wash fun _ => rfl
    exact counted.trans ((screens _).trans (sendSecond_quiet _ _ _))

/-! ## Every command -/

/-- The commands that power or reset the part. -/
def isReset : Instr → Bool
  | .powerApplication _ _ | .coldStartUpCompletion | .supplyLoss | .resetNFall | .resetNRelease => true
  | _ => false

/-- Every command but power and RESET_N follows its state. -/
theorem exec_passes (c : Instr) (s : State) (h : isReset c = false) :
    ∃ t, exec c s = .next t ∧ Passes [] s [] t := by
  cases c
  case powerApplication | coldStartUpCompletion | supplyLoss | resetNFall | resetNRelease => cases h
  case arrival | withdrawal | giveBack | cancelRequest | handIllegal | entryWordWrite | bulkWrite =>
    exact ⟨_, rfl, hostWrite_passes _ _ s⟩
  case summaryWrite | enableWrite | readOnly =>
    exact ⟨_, rfl, (whenRunning_quiet _ s (Quiet.of_fields rfl)).passes⟩
  case faultWrite => exact ⟨_, rfl, (whenRunning_quiet _ s (by split <;> exact Quiet.of_fields rfl)).passes⟩
  case unknownKind => exact ⟨_, rfl, take_passes s _ _ fun o t => finish_passes o t _ (Passes.refl t)⟩
  case describe => exact ⟨_, rfl, takeImmediate_passes s _ _ fun _ t => Passes.refl t⟩
  case snapshot => exact ⟨_, rfl, takeImmediate_passes s _ _ fun o t => snapshotRule_passes o t⟩
  case setTime => exact ⟨_, rfl, takeImmediate_passes s _ _ fun o t => setTimeRule_passes o t⟩
  case setTimer => exact ⟨_, rfl, takeImmediate_passes s _ _ fun o t => setTimerRule_passes o t⟩
  case stopTimer => exact ⟨_, rfl, takeImmediate_passes s _ _ fun o t => stopTimerRule_passes o t⟩
  case setChannel => exact ⟨_, rfl, takeImmediate_passes s _ _ fun o t => setChannelRule_passes o t⟩
  case setSea => exact ⟨_, rfl, takeImmediate_passes s _ _ fun o t => setSeaRule_passes o t⟩
  case loadTide => exact ⟨_, rfl, takeImmediate_passes s _ _ fun o t => loadTideRule_passes o t⟩
  case swapTide => exact ⟨_, rfl, takeSwap_passes s⟩
  case setAlarm => exact ⟨_, rfl, takeImmediate_passes s _ _ fun o t => setAlarmRule_passes o t⟩
  case ackAlarm => exact ⟨_, rfl, takeImmediate_passes s _ _ fun o t => ackAlarmRule_passes o t⟩
  case setScreen => exact ⟨_, rfl, takeImmediate_passes s _ _ fun o t => setScreenRule_passes o t⟩
  case wash => exact ⟨_, rfl, take_passes s _ _ fun o t => washRule_passes o t⟩
  case holdScreen => exact ⟨_, rfl, takeImmediate_passes s _ _ fun o t => holdScreenRule_passes o t⟩
  case releaseScreen => exact ⟨_, rfl, takeImmediate_passes s _ _ fun o t => releaseScreenRule_passes o t⟩
  case resetScreen => exact ⟨_, rfl, takeImmediate_passes s _ _ fun o t => resetScreenRule_passes o t⟩
  case setWash => exact ⟨_, rfl, takeImmediate_passes s _ _ fun o t => setWashRule_passes o t⟩
  case setPump => exact ⟨_, rfl, takeImmediate_passes s _ _ fun o t => setPumpRule_passes o t⟩
  case holdPump => exact ⟨_, rfl, takeImmediate_passes s _ _ fun o t => holdPumpRule_passes o t⟩
  case releasePump => exact ⟨_, rfl, takeImmediate_passes s _ _ fun o t => releasePumpRule_passes o t⟩
  case resetPump => exact ⟨_, rfl, takeImmediate_passes s _ _ fun o t => resetPumpRule_passes o t⟩
  case setDemand => exact ⟨_, rfl, takeImmediate_passes s _ _ fun o t => setDemandRule_passes o t⟩
  case setRoster => exact ⟨_, rfl, takeImmediate_passes s _ _ fun o t => setRosterRule_passes o t⟩
  case change => exact ⟨_, rfl, take_passes s _ _ fun o t => changeRule_passes o t⟩
  case lockDuty => exact ⟨_, rfl, takeImmediate_passes s _ _ fun o t => lockDutyRule_passes o t⟩
  case setChoke => exact ⟨_, rfl, takeImmediate_passes s _ _ fun o t => setChokeRule_passes o t⟩
  case crystalConfirmed => exact ⟨_, rfl, (crystalConfirmed_quiet s).passes⟩
  case crystalFailure => exact ⟨_, rfl, (crystalFailure_quiet s).passes⟩
  case confirmPeriodRestart => exact ⟨_, rfl, (confirmRestart_quiet s).passes⟩
  case secondStep => exact ⟨_, rfl, (secondStep_quiet s).passes⟩
  case unitTick => exact ⟨_, rfl, (unitTick_quiet s).passes⟩
  case timerExpiry t => exact ⟨_, rfl, (timerExpiry_quiet t s).passes⟩
  case intervalRestart n => exact ⟨_, rfl, (intervalRestart_quiet n s).passes⟩
  case minuteEventTide => exact ⟨_, rfl, (minuteEventTide_quiet s).passes⟩
  case minuteEventLevel => exact ⟨_, rfl, (minuteEventLevel_quiet s).passes⟩
  case minuteEventAlarm => exact ⟨_, rfl, (minuteEventAlarm_quiet s).passes⟩
  case timeSetEventTide => exact ⟨_, rfl, (timeSetEventTide_quiet s).passes⟩
  case timeSetEventLevel => exact ⟨_, rfl, (timeSetEventLevel_quiet s).passes⟩
  case timeSetEventAlarm => exact ⟨_, rfl, (timeSetEventAlarm_quiet s).passes⟩
  case suspectChangeEventTide => exact ⟨_, rfl, (suspectChangeEventTide_quiet s).passes⟩
  case suspectChangeEventAlarm => exact ⟨_, rfl, (suspectChangeEventAlarm_quiet s).passes⟩
  case editionChangeEvent => exact ⟨_, rfl, (editionChangeEvent_quiet s).passes⟩
  case scanCompletion codes => exact ⟨_, rfl, (scanCompletion_quiet codes s).passes⟩
  case seaReport => exact ⟨_, rfl, (seaReport_quiet s).passes⟩
  case rateReport => exact ⟨_, rfl, (rateReport_quiet s).passes⟩
  case differentialReport => exact ⟨_, rfl, (differentialReport_quiet s).passes⟩
  case wReport => exact ⟨_, rfl, (wReport_quiet s).passes⟩
  case wReportDuty => exact ⟨_, rfl, (wReportDuty_quiet s).passes⟩
  case hReport => exact ⟨_, rfl, (hReport_quiet s).passes⟩
  case runningPumpReport => exact ⟨_, rfl, (runningPumpReport_quiet s).passes⟩
  case grant => exact ⟨_, rfl, grant_passes s⟩
  case washRequest n => exact ⟨_, rfl, (washRequest_quiet n s).passes⟩
  case turnEdge n level => exact ⟨_, rfl, turnEdge_passes n level s⟩
  case turnWatchExpiry n => exact ⟨_, rfl, turnWatchExpiry_passes n s⟩
  case rundownExpiry n => exact ⟨_, rfl, (rundownExpiry_quiet n s).passes⟩
  case overloadEvent n level => exact ⟨_, rfl, overloadEvent_passes n level s⟩
  case washCancel n => exact ⟨_, rfl, washCancel_passes n s⟩
  case chokeChangeEvent => exact ⟨_, rfl, chokeChangeEvent_passes s⟩
  case actionChangeEvent => exact ⟨_, rfl, actionChangeEvent_passes s⟩
  case startRequest => exact ⟨_, rfl, (startRequest_quiet s).passes⟩
  case stopRequest => exact ⟨_, rfl, (stopRequest_quiet s).passes⟩
  case proofEdge p => exact ⟨_, rfl, (pumpLine_quiet p _ _ _ s (setPump_quiet p _ s) (proof_quiet p)).passes⟩
  case proofDrop p => exact ⟨_, rfl, (pumpLine_quiet p _ _ _ s (setPump_quiet p _ s) (unproof_quiet p)).passes⟩
  case motorFaultEvent p => exact ⟨_, rfl, (pumpLine_quiet p _ _ _ s (setPump_quiet p _ s) (motorFault_quiet p)).passes⟩
  case motorFaultClear p =>
    exact ⟨_, rfl, (pumpLine_quiet p _ _ _ s (setPump_quiet p _ s) fun t => pumpEvent_quiet p _ t).passes⟩
  case proveWatchExpiry p => exact ⟨_, rfl, (expiry_quiet _ _ s (trip_quiet .proofFail p s)).passes⟩
  case lossWatchExpiry p => exact ⟨_, rfl, (expiry_quiet _ _ s (trip_quiet .proofLost p s)).passes⟩
  case stoppingClockExpiry p => exact ⟨_, rfl, (expiry_quiet _ _ s (pumpEvent_quiet p Pump.atRest s)).passes⟩
  case restartDelayEnd p => exact ⟨_, rfl, (restartDelayEnd_quiet p s).passes⟩
  case pumpChangeReport => exact ⟨_, rfl, pumpChangeReport_passes s⟩
  case changeCancel => exact ⟨_, rfl, changeCancel_passes s⟩
  case rotationExpiry => exact ⟨_, rfl, rotationExpiry_passes s⟩

/-! ## A part that does not run (R20, R22) -/

/-- A take that finds the part not running does not come. -/
theorem take_idle (s : State) (kind : Option OrderKind) (body : WorkingCopy → State → State) (h : s.phase ≠ .running) :
    s.take kind body = s := s.whenRunning_idle _ h

theorem takeSwap_idle (s : State) (h : s.phase ≠ .running) : s.takeSwap = s := by
  unfold State.takeSwap
  split
  · rfl
  · exact take_idle s _ _ h

/-- A command of the running part alone changes nothing in any other phase. -/
theorem exec_idle (c : Instr) (s : State) (hc : runningOnly c = true) (h : s.phase ≠ .running) : exec c s = .next s := by
  cases c
  case powerApplication | coldStartUpCompletion | supplyLoss | resetNFall | resetNRelease | crystalConfirmed |
      crystalFailure | confirmPeriodRestart | secondStep | turnEdge | overloadEvent | proofEdge | proofDrop |
      motorFaultEvent | motorFaultClear | restartDelayEnd => cases hc
  case swapTide => exact congrArg Host.Outcome.next (takeSwap_idle s h)
  case unknownKind | describe | snapshot | setTime | setTimer | stopTimer | setChannel | setSea | loadTide | setAlarm |
      ackAlarm | setScreen | wash | holdScreen | releaseScreen | resetScreen | setWash | setPump | holdPump | releasePump |
      resetPump | setDemand | setRoster | change | lockDuty | setChoke => exact congrArg Host.Outcome.next (take_idle s _ _ h)
  all_goals exact congrArg Host.Outcome.next (s.whenRunning_idle _ h)

end Sys2Proof

open Sys2Proof Sys2Proof.Machine

/-- Settles O4: each such command acts through `State.whenRunning`. -/
theorem partNotRunningIgnoresWritesAndTakes : Obligations.PartNotRunningIgnoresWritesAndTakes :=
  fun c s hc h => exec_idle c s hc h

end


/-!
# A completion, word by word

What a completion leaves to be read at its entry and beside it.
-/

section
namespace Sys2Proof

open Sys2Proof.Machine

/-! ## What a completion leaves to be read (R13) -/

theorem complete_port (s : State) (e : Entry) (tag : Option Word) (r : OrderResult) (answers : List Word) :
    (s.complete e tag r answers).port = (s.setFlag .orderDone).port := by
  rw [State.complete_frame]
  rfl

/-- A completion sets ORDER_DONE and no other flag. -/
theorem complete_flag (s : State) (e : Entry) (tag : Option Word) (r : OrderResult) (answers : List Word) (f : Flag) :
    (s.complete e tag r answers).flag f = (s.setFlag .orderDone).flag f := by
  unfold State.flag
  rw [complete_port]

theorem entryAddr_inj {e f : Entry} {o w : Nat} (ho : o < 32) (hw : w < 32) (h : entryAddr e o = entryAddr f w) :
    e = f ∧ o = w := by
  unfold entryAddr at h
  exact ⟨Fin.ext (by omega), by omega⟩

/-- Memory after the tag is written, if one was copied. -/
theorem writeTag_read (s : State) (e : Entry) (tag : Option Word) (a : Nat) (h : Memory.wf s.mem = true) :
    Memory.read (s.writeTag e tag).mem a =
      if a = entryAddr e 2 then tag.getD (Memory.read s.mem a) else Memory.read s.mem a := by
  cases tag with
  | none => simp [State.writeTag]
  | some t =>
    show Memory.read (Memory.write s.mem (entryAddr e 2) t) a = _
    by_cases ha : a = entryAddr e 2
    · rw [if_pos ha, ha, Memory.read_write_same _ _ _ h]
      rfl
    · rw [if_neg ha, Memory.read_write_ne _ _ _ _ ha h]

/-- Memory after a completion: result and answers, the tag if one was copied, and every other word as it was. -/
theorem complete_read (s : State) (e : Entry) (tag : Option Word) (r : OrderResult) (answers : List Word) (a : Nat)
    (h : Memory.wf s.mem = true) :
    Memory.read (s.complete e tag r answers).mem a =
      if entryAddr e 16 ≤ a ∧ a < entryAddr e 16 + 16 then (r.code :: answerWords answers).getD (a - entryAddr e 16) 0
      else if a = entryAddr e 2 then tag.getD (Memory.read s.mem a) else Memory.read s.mem a := by
  rw [State.complete_mem, State.writeWords_read _ _ _ _ (s.writeTag_wf e tag h) (State.complete_ok e r answers),
    writeTag_read s e tag a h]
  simp only [List.length_cons, answerWords_length]

/-- The words of the completed entry beside its hand. -/
theorem complete_entryWord (s : State) (e : Entry) (tag : Option Word) (r : OrderResult) (answers : List Word) (w : Nat)
    (h : Memory.wf s.mem = true) (h1 : 1 ≤ w) (hw : w < 32) :
    (s.complete e tag r answers).entryWord e w =
      if 16 ≤ w then (r.code :: answerWords answers).getD (w - 16) 0
      else if w = 2 then tag.getD (s.entryWord e 2) else s.entryWord e w := by
  rw [State.entryWord_eq _ e w (by omega) hw, complete_read s e tag r answers _ h]
  by_cases h16 : 16 ≤ w
  · have place : entryAddr e w - entryAddr e 16 = w - 16 := by unfold entryAddr; omega
    rw [if_pos h16, if_pos (by unfold entryAddr; omega), place]
  · rw [if_neg h16, if_neg (by unfold entryAddr; omega)]
    by_cases h2 : w = 2
    · subst h2
      rw [if_pos rfl, if_pos rfl, State.entryWord_eq s e 2 (by omega) hw]
    · rw [if_neg h2, if_neg (by unfold entryAddr; omega), State.entryWord_eq s e w (by omega) hw]

/-- A completion leaves every word outside its entry. -/
theorem complete_memWord (s : State) (e : Entry) (tag : Option Word) (r : OrderResult) (answers : List Word) (a : Nat)
    (h : Memory.wf s.mem = true) (ha : ∀ o, o < 32 → a ≠ 32 * e.1 + o) :
    (s.complete e tag r answers).memWord a = s.memWord a := by
  unfold State.memWord
  by_cases hh : isHandAddr a = true
  · rw [if_pos hh, if_pos hh, State.hand_complete, if_neg]
    intro he
    simp only [isHandAddr, Bool.and_eq_true, decide_eq_true_eq, beq_iff_eq] at hh
    refine ha 0 (by omega) ?_
    rw [← he]
    show a = 32 * (a / 32 % 32) + 0
    omega
  · have low := ha 2 (by omega)
    have high := fun o (h : o < 32) => ha o h
    rw [if_neg hh, if_neg hh, complete_read s e tag r answers a h, if_neg, if_neg]
    · exact low
    · intro hr
      unfold entryAddr at hr
      exact high (a - 32 * e.1) (by omega) (by omega)

/-- The hand words read as hands, so that only memory and hands give a word. -/
theorem complete_entryWord_ne (s : State) (e f : Entry) (tag : Option Word) (r : OrderResult) (answers : List Word) (w : Nat)
    (h : Memory.wf s.mem = true) (hf : f ≠ e) (hw : w < 32) :
    (s.complete e tag r answers).entryWord f w = s.entryWord f w :=
  complete_memWord s e tag r answers _ h fun _ ho ha => hf (entryAddr_inj hw ho ha).1

end Sys2Proof

open Sys2Proof Sys2Proof.Machine

/-- Settles O20: the frame of a completion and its words, each read by its place. -/
theorem completionWritesEntry : Obligations.CompletionWritesEntry := by
  refine ⟨rfl, fun s e tag r answers h => ?_⟩
  have word := fun w h1 hw => complete_entryWord s e (some tag) r answers w h h1 hw
  refine ⟨State.complete_frame .., State.complete_wf _ _ _ _ _ h, ?_,
    (complete_flag ..).trans (State.flag_setFlag_same _ _), ?_, ?_, fun k hk => ?_, ?_,
    fun w h3 h15 => ?_, fun a ha => complete_memWord s e (some tag) r answers a h ha⟩
  · rw [State.hand_complete, if_pos rfl]
  · exact word 2 (by omega) (by omega)
  · exact word 16 (by omega) (by omega)
  · rw [word (17 + k) (by omega) (by omega), if_pos (by omega), show 17 + k - 16 = k + 1 by omega,
      List.getD_cons_succ, answerWords_getD answers k hk]
  · exact word 1 (by omega) (by omega)
  · rw [word w (by omega) (by omega), if_neg (by omega), if_neg (by omega)]

end


/-!
# The sweep of the order table

The sweep entry by entry: what the sweep of one entry leaves of the others, so that each stands as its own sweep leaves it.
-/

section
namespace Sys2Proof

open Sys2Proof.Machine

/-! ## One holder to an entry (R11) -/

/-- A screen holds an entry exactly when its wash order names it. -/
theorem screen_holds_iff (x : Screen) (e : Entry) : x.holds e = true ↔ ∃ o, x.washOrder = some o ∧ o.entry = e := by
  unfold Screen.holds
  cases x.washOrder <;> simp

/-- The duty unit holds an entry exactly when its change order names it. -/
theorem duty_holds_iff (d : Duty) (e : Entry) : d.holds e = true ↔ ∃ o, d.changeOrder = some o ∧ o.entry = e := by
  unfold Duty.holds
  cases d.changeOrder <;> simp

/-- No two screens hold one entry. -/
theorem washHolder_unique {s : State} (h : (holders s).Nodup) {n m : ScreenNo} {o p : WashOrder}
    (hn : (s.screen n).washOrder = some o) (hm : (s.screen m).washOrder = some p) (e : p.entry = o.entry) : m = n := by
  by_contra hne
  have once := (holders_perm s n).nodup_iff.mp h
  have front : washEntries (s.screen n) = [o.entry] := by rw [washEntries, hn]; rfl
  rw [front, List.singleton_append, List.nodup_cons] at once
  refine once.1 (List.mem_append_left _ (List.mem_filterMap.mpr ⟨m, ?_, by rw [hm, ← e]; rfl⟩))
  exact (List.Nodup.mem_erase_iff (List.nodup_finRange 6)).mpr ⟨hne, List.mem_finRange m⟩

/-- No screen holds the duty unit's change order. -/
theorem changeHolder_unique {s : State} (h : (holders s).Nodup) {n : ScreenNo} {o : WashOrder} {c : ChangeOrder}
    (hn : (s.screen n).washOrder = some o) (hc : s.duty.changeOrder = some c) : o.entry ≠ c.entry := by
  intro e
  have once := (holders_perm s n).nodup_iff.mp h
  have front : washEntries (s.screen n) = [o.entry] := by rw [washEntries, hn]; rfl
  have change : changeEntries s.duty = [c.entry] := by rw [changeEntries, hc]; rfl
  rw [front, List.singleton_append, List.nodup_cons, change, e] at once
  exact once.1 (by simp)

/-- The screens that hold an entry are the one that does. -/
theorem washHolders_eq {s : State} (h : (holders s).Nodup) {n : ScreenNo} {o : WashOrder}
    (hn : (s.screen n).washOrder = some o) : (indices fun m => (s.screen m).holds o.entry) = [n] := by
  have only : (fun m => (s.screen m).holds o.entry) = fun m => decide (m = n) := by
    funext m
    rw [Bool.eq_iff_iff, screen_holds_iff, decide_eq_true_eq]
    constructor
    · rintro ⟨p, hm, e⟩
      exact washHolder_unique h hn hm e
    · rintro rfl
      exact ⟨o, hn, rfl⟩
  rw [only]
  fin_cases n <;> rfl

/-- The entry of a change order stands with no screen. -/
theorem washHolders_of_change {s : State} (h : (holders s).Nodup) {c : ChangeOrder} (hc : s.duty.changeOrder = some c) :
    (indices fun m => (s.screen m).holds c.entry) = [] := by
  refine List.filter_eq_nil_iff.mpr fun m _ hm => ?_
  obtain ⟨o, ho, e⟩ := (screen_holds_iff _ _).mp hm
  exact changeHolder_unique h ho hc e

/-! ## The sweep of the order table (R23) -/

/-- Whether a hand names an order that the sweep completes. -/
def sweeps : Hand → Bool
  | .posted => true
  | .taken => true
  | .cancel => true
  | .free => false
  | .done => false

theorem sweeps_iff (h : Hand) : sweeps h = true ↔ h ≠ .free ∧ h ≠ .done := by cases h <;> simp [sweeps]

/-- What a sweep can change at all: memory, hands, SUMMARY, and the references to orders. -/
structure Swept (s t : State) : Prop where
  frame : t = { s with
    mem := t.mem, hands := t.hands, port := { s.port with summary := t.port.summary }, screens := t.screens
    duty := { s.duty with changeOrder := t.duty.changeOrder } }
  screen : ∀ n, t.screen n = { s.screen n with washOrder := (t.screen n).washOrder }

theorem Swept.refl (s : State) : Swept s s := ⟨rfl, fun _ => rfl⟩

theorem Swept.trans {s t u : State} (h : Swept s t) (h' : Swept t u) : Swept s u :=
  ⟨by rw [h'.frame, h.frame], fun n => by rw [h'.screen n, h.screen n]⟩

theorem complete_swept (s : State) (e : Entry) (tag : Option Word) (r : OrderResult) (answers : List Word) :
    Swept s (s.complete e tag r answers) := by
  refine ⟨?_, fun n => ?_⟩
  · conv_lhs => rw [State.complete_frame]
    simp only [State.complete_hands, State.complete_screens, State.complete_duty]
    conv_rhs => rw [State.complete_frame]
  · simp only [State.screen, State.complete_screens]

/-- What the references dropped leave at a screen. -/
theorem dropHolders_screen (e : Entry) (s : State) (n : ScreenNo) :
    (s.dropHolders e).screen n = if (s.screen n).holds e then { s.screen n with washOrder := none } else s.screen n :=
  sel_tab _ n

theorem dropHolders_swept (e : Entry) (s : State) : Swept s (s.dropHolders e) := by
  refine ⟨?_, fun n => ?_⟩
  · unfold State.dropHolders
    cases s.duty.holds e <;> rfl
  · rw [dropHolders_screen]
    split <;> rfl

theorem sweepEntry_swept (s : State) (e : Entry) : Swept s (s.sweepEntry e) := by
  unfold State.sweepEntry
  split
  · exact complete_swept s _ _ _ _
  · exact (dropHolders_swept e s).trans (complete_swept _ _ _ _ _)
  · exact (dropHolders_swept e s).trans (complete_swept _ _ _ _ _)
  · exact Swept.refl s
  · exact Swept.refl s

/-- An entry that the sweep of another leaves as it stands: its hand, its words and its holder. -/
structure SameAt (f : Entry) (s t : State) : Prop where
  hand : t.hand f = s.hand f
  words : ∀ o, o < 32 → t.entryWord f o = s.entryWord f o
  wash : ∀ n o, o.entry = f → ((t.screen n).washOrder = some o ↔ (s.screen n).washOrder = some o)
  change : ∀ o, o.entry = f → (t.duty.changeOrder = some o ↔ s.duty.changeOrder = some o)

theorem SameAt.refl (f : Entry) (s : State) : SameAt f s s := ⟨rfl, fun _ _ => rfl, fun _ _ _ => Iff.rfl, fun _ _ => Iff.rfl⟩

theorem SameAt.trans {f : Entry} {s t u : State} (h : SameAt f s t) (h' : SameAt f t u) : SameAt f s u :=
  ⟨h'.hand.trans h.hand, fun o ho => (h'.words o ho).trans (h.words o ho),
    fun n o ho => (h'.wash n o ho).trans (h.wash n o ho), fun o ho => (h'.change o ho).trans (h.change o ho)⟩

theorem complete_sameAt (s : State) (e f : Entry) (tag : Option Word) (r : OrderResult) (answers : List Word)
    (h : Memory.wf s.mem = true) (hf : f ≠ e) : SameAt f s (s.complete e tag r answers) := by
  refine ⟨by rw [State.hand_complete, if_neg hf], fun o ho => complete_entryWord_ne s e f tag r answers o h hf ho,
    fun n o _ => ?_, fun o _ => by rw [State.complete_duty]⟩
  simp only [State.screen, State.complete_screens]

/-- A reference dropped is not of another entry. -/
theorem dropHolders_wash (e : Entry) (s : State) (n : ScreenNo) (o : WashOrder) :
    ((s.dropHolders e).screen n).washOrder = some o ↔ (s.screen n).washOrder = some o ∧ o.entry ≠ e := by
  have holds := screen_holds_iff (s.screen n) e
  rw [dropHolders_screen]
  split
  · next h =>
    obtain ⟨p, hp, he⟩ := holds.mp h
    simp only [hp, reduceCtorEq, false_iff, Option.some.injEq, not_and, not_not]
    rintro rfl
    exact he
  · next h =>
    refine ⟨fun ho => ⟨ho, fun he => h (holds.mpr ⟨o, ho, he⟩)⟩, fun ho => ho.1⟩

theorem dropHolders_change (e : Entry) (s : State) (o : ChangeOrder) :
    (s.dropHolders e).duty.changeOrder = some o ↔ s.duty.changeOrder = some o ∧ o.entry ≠ e := by
  have holds := duty_holds_iff s.duty e
  show (if s.duty.holds e then { s.duty with changeOrder := none } else s.duty).changeOrder = some o ↔ _
  split
  · next h =>
    obtain ⟨p, hp, he⟩ := holds.mp h
    simp only [hp, reduceCtorEq, false_iff, Option.some.injEq, not_and, not_not]
    rintro rfl
    exact he
  · next h =>
    refine ⟨fun ho => ⟨ho, fun he => h (holds.mpr ⟨o, ho, he⟩)⟩, fun ho => ho.1⟩

theorem dropHolders_sameAt (e f : Entry) (s : State) (hf : f ≠ e) : SameAt f s (s.dropHolders e) := by
  refine ⟨rfl, fun _ _ => rfl, fun n o ho => ?_, fun o ho => ?_⟩
  · rw [dropHolders_wash, ho]
    simp [hf]
  · rw [dropHolders_change, ho]
    simp [hf]

theorem sweepEntry_sameAt (s : State) (e f : Entry) (h : Memory.wf s.mem = true) (hf : f ≠ e) :
    SameAt f s (s.sweepEntry e) := by
  unfold State.sweepEntry
  split
  · exact complete_sameAt s e f _ _ _ h hf
  · exact (dropHolders_sameAt e f s hf).trans (complete_sameAt _ e f _ _ _ h hf)
  · exact (dropHolders_sameAt e f s hf).trans (complete_sameAt _ e f _ _ _ h hf)
  · exact SameAt.refl f s
  · exact SameAt.refl f s

/-- The sweep of an entry keeps the canonical form and leaves the bulk area. -/
theorem sweepEntry_memory (s : State) (e : Entry) (h : Memory.wf s.mem = true) :
    Memory.wf (s.sweepEntry e).mem = true ∧
      ∀ a, 1024 ≤ a → Memory.read (s.sweepEntry e).mem a = Memory.read s.mem a := by
  have bulk : ∀ (u : State) (tag : Option Word) (a : Nat), Memory.wf u.mem = true → 1024 ≤ a →
      Memory.read (u.complete e tag .restarted []).mem a = Memory.read u.mem a := by
    intro u tag a hu ha
    have := e.isLt
    rw [complete_read u e tag _ _ a hu, if_neg (by unfold entryAddr; omega), if_neg (by unfold entryAddr; omega)]
  unfold State.sweepEntry
  split
  · exact ⟨State.complete_wf _ _ _ _ _ h, fun a => bulk s _ a h⟩
  · exact ⟨State.complete_wf _ _ _ _ _ h, fun a => bulk (s.dropHolders e) _ a h⟩
  · exact ⟨State.complete_wf _ _ _ _ _ h, fun a => bulk (s.dropHolders e) _ a h⟩
  · exact ⟨h, fun _ _ => rfl⟩
  · exact ⟨h, fun _ _ => rfl⟩

/-- The flags after the sweep of an entry: ORDER_DONE by its completion, the others as they were. -/
theorem sweepEntry_flag (s : State) (e : Entry) :
    ((s.sweepEntry e).flag .orderDone = true ↔ s.flag .orderDone = true ∨ sweeps (s.hand e) = true) ∧
      ∀ f, f ≠ .orderDone → (s.sweepEntry e).flag f = s.flag f := by
  have done : ∀ (u : State) (tag : Option Word), (u.complete e tag .restarted []).flag .orderDone = true := by
    intro u tag
    rw [complete_flag]
    exact State.flag_setFlag_same _ _
  have other : ∀ (u : State) (tag : Option Word) (f : Flag), f ≠ .orderDone →
      (u.complete e tag .restarted []).flag f = u.flag f := by
    intro u tag f hf
    rw [complete_flag]
    exact State.flag_setFlag_ne _ _ _ hf
  unfold State.sweepEntry
  cases hh : s.hand e
  case posted => exact ⟨by simp [done, sweeps], fun f hf => other s none f hf⟩
  case taken | cancel => exact ⟨by simp [done, sweeps], fun f hf => other (s.dropHolders e) _ f hf⟩
  case free | done => exact ⟨by simp [sweeps], fun _ _ => rfl⟩

/-- The sweep of an entry that stands with no unit's order to complete leaves it. -/
theorem sweepEntry_rest (s : State) (e : Entry) (h : sweeps (s.hand e) = false) : s.sweepEntry e = s := by
  unfold State.sweepEntry
  cases hh : s.hand e
  case free | done => rfl
  all_goals
    rw [hh] at h
    cases h

/-- The tag that the sweep of an entry writes (R13, R23). -/
def sweptTag (s : State) (e : Entry) : Option Word :=
  match s.hand e with
  | .posted => none
  | _ => s.heldTag e

/-- What the sweep of an entry leaves in it. -/
theorem sweepEntry_words (s : State) (e : Entry) (hw : Memory.wf s.mem = true) (h : sweeps (s.hand e) = true) :
    (s.sweepEntry e).hand e = .done ∧
      ∀ w, 1 ≤ w → w < 32 → (s.sweepEntry e).entryWord e w =
        if 16 ≤ w then (OrderResult.restarted.code :: answerWords []).getD (w - 16) 0
        else if w = 2 then (sweptTag s e).getD (s.entryWord e 2) else s.entryWord e w := by
  unfold State.sweepEntry sweptTag
  cases hh : s.hand e
  case posted => exact ⟨by simp [State.hand_complete], fun w h1 h32 => complete_entryWord s e _ _ _ w hw h1 h32⟩
  case taken | cancel =>
    exact ⟨by simp [State.hand_complete], fun w h1 h32 => complete_entryWord (s.dropHolders e) e _ _ _ w hw h1 h32⟩
  case free | done => rw [hh] at h; cases h

/-- No unit holds an entry after its sweep. -/
theorem sweepEntry_unheld (s : State) (e : Entry) (h : s.hand e = .taken ∨ s.hand e = .cancel) :
    (∀ n o, ((s.sweepEntry e).screen n).washOrder = some o → o.entry ≠ e) ∧
      ∀ o, (s.sweepEntry e).duty.changeOrder = some o → o.entry ≠ e := by
  have dropped : s.sweepEntry e = (s.dropHolders e).complete e (s.heldTag e) .restarted [] := by
    unfold State.sweepEntry
    rcases h with h | h <;> rw [h]
  rw [dropped]
  refine ⟨fun n o ho => ?_, fun o ho => ?_⟩
  · simp only [State.screen, State.complete_screens] at ho
    exact ((dropHolders_wash e s n o).mp ho).2
  · rw [State.complete_duty] at ho
    exact ((dropHolders_change e s o).mp ho).2

/-! ### The sweep of the whole table -/

/-- The sweeps of some entries, one after the other. -/
def sweptOf (l : List Entry) (s : State) : State := l.foldl State.sweepEntry s

theorem sweptOf_swept (l : List Entry) (s : State) : Swept s (sweptOf l s) := by
  induction l generalizing s with
  | nil => exact Swept.refl s
  | cons e l ih => exact (sweepEntry_swept s e).trans (ih _)

theorem sweptOf_memory (l : List Entry) (s : State) (h : Memory.wf s.mem = true) :
    Memory.wf (sweptOf l s).mem = true ∧ ∀ a, 1024 ≤ a → Memory.read (sweptOf l s).mem a = Memory.read s.mem a := by
  induction l generalizing s with
  | nil => exact ⟨h, fun _ _ => rfl⟩
  | cons e l ih =>
    obtain ⟨wf, bulk⟩ := sweepEntry_memory s e h
    obtain ⟨wf', bulk'⟩ := ih (s.sweepEntry e) wf
    exact ⟨wf', fun a ha => (bulk' a ha).trans (bulk a ha)⟩

theorem sweptOf_sameAt (l : List Entry) (s : State) (f : Entry) (h : Memory.wf s.mem = true) (hf : f ∉ l) :
    SameAt f s (sweptOf l s) := by
  induction l generalizing s with
  | nil => exact SameAt.refl f s
  | cons e l ih =>
    simp only [List.mem_cons, not_or] at hf
    exact (sweepEntry_sameAt s e f h hf.1).trans (ih _ (sweepEntry_memory s e h).1 hf.2)

/-- Where the sweep of a table comes to an entry: it stands as before, and as its own sweep leaves it to the end. -/
theorem sweptOf_at (l : List Entry) (s : State) (f : Entry) (h : Memory.wf s.mem = true) (once : l.Nodup) (hf : f ∈ l) :
    ∃ u, SameAt f s u ∧ Memory.wf u.mem = true ∧ SameAt f (u.sweepEntry f) (sweptOf l s) := by
  obtain ⟨pre, post, rfl⟩ := List.append_of_mem hf
  have split : sweptOf (pre ++ f :: post) s = sweptOf post ((sweptOf pre s).sweepEntry f) := by
    simp [sweptOf]
  rw [List.nodup_append] at once
  obtain ⟨-, tail, apart⟩ := once
  have wf := (sweptOf_memory pre s h).1
  refine ⟨sweptOf pre s, sweptOf_sameAt pre s f h fun hm => apart f hm f (by simp) rfl, wf, ?_⟩
  rw [split]
  exact sweptOf_sameAt post _ f (sweepEntry_memory _ f wf).1 (List.nodup_cons.mp tail).1

/-- A sweep sets no flag but ORDER_DONE. -/
theorem sweptOf_flag (l : List Entry) (s : State) (f : Flag) (hf : f ≠ .orderDone) : (sweptOf l s).flag f = s.flag f := by
  induction l generalizing s with
  | nil => rfl
  | cons e l ih => exact (ih (s.sweepEntry e)).trans ((sweepEntry_flag s e).2 f hf)

/-- A sweep sets ORDER_DONE if it completes an entry. -/
theorem sweptOf_orderDone (l : List Entry) (s : State) (h : Memory.wf s.mem = true) (once : l.Nodup) :
    (sweptOf l s).flag .orderDone = true ↔ s.flag .orderDone = true ∨ ∃ e ∈ l, sweeps (s.hand e) = true := by
  induction l generalizing s with
  | nil => simp [sweptOf]
  | cons e l ih =>
    obtain ⟨fresh, once⟩ := List.nodup_cons.mp once
    have rest : (∃ f ∈ l, sweeps ((s.sweepEntry e).hand f) = true) ↔ ∃ f ∈ l, sweeps (s.hand f) = true := by
      refine exists_congr fun f => and_congr_right fun hf => ?_
      rw [(sweepEntry_sameAt s e f h fun he => fresh (he ▸ hf)).hand]
    show (sweptOf l (s.sweepEntry e)).flag .orderDone = true ↔ _
    rw [ih _ (sweepEntry_memory s e h).1 once, (sweepEntry_flag s e).1, rest, List.exists_mem_cons_iff, or_assoc]

theorem sweep_eq (s : State) : s.sweep = { sweptOf (List.finRange 32) s with intake := [] } := rfl

end Sys2Proof
end


/-!
# The units at the release of RESET_N

The restarts of the units in closed form, and the duty unit's event that follows them.
-/

section
namespace Sys2Proof

open Sys2Proof.Machine

/-! ## An event of the duty unit that holds no change order -/

/-- What an event of the duty unit leaves while it holds no change order: memory and hands, and every flag but PUMP. -/
structure Orderless (s t : State) : Prop where
  change : t.duty.changeOrder = s.duty.changeOrder
  mem : t.mem = s.mem
  hands : t.hands = s.hands
  flag : ∀ f, f ≠ .pump → t.flag f = s.flag f

theorem Orderless.refl (s : State) : Orderless s s := ⟨rfl, rfl, rfl, fun _ _ => rfl⟩

theorem Orderless.trans {s t u : State} (h : Orderless s t) (h' : Orderless t u) : Orderless s u :=
  ⟨h'.change.trans h.change, h'.mem.trans h.mem, h'.hands.trans h.hands, fun f hf => (h'.flag f hf).trans (h.flag f hf)⟩

theorem setDuty_orderless (s : State) (d : Duty) (h : d.changeOrder = s.duty.changeOrder) : Orderless s (s.setDuty d) :=
  ⟨h, rfl, rfl, fun _ _ => rfl⟩

theorem setMove_orderless (s : State) (m : Move) : Orderless s (s.setMove m) := setDuty_orderless s { s.duty with move := m } rfl

theorem setPump_orderless (s : State) : Orderless s (s.setFlag .pump) :=
  ⟨rfl, rfl, rfl, fun f hf => State.flag_setFlag_ne s .pump f hf⟩

theorem askStart_orderless (s : State) (p : PumpNo) : Orderless s (s.askStart p) := ⟨rfl, rfl, rfl, fun _ _ => rfl⟩

theorem askStop_orderless (s : State) (p : PumpNo) : Orderless s (s.askStop p) := ⟨rfl, rfl, rfl, fun _ _ => rfl⟩

theorem abandonChange_orderless (s : State) (m : Move) (r : OrderResult) (i o : PumpNo) (h : s.duty.changeOrder = none) :
    Orderless s (s.abandonChange m r i o) := by
  rw [abandonChange_eq]
  unfold changeOrderEnded
  have none : (restoredWith m s.duty).changeOrder = Option.none := h
  dsimp only
  rw [none]
  exact setDuty_orderless s _ rfl

theorem endMove_orderless (s : State) (h : s.duty.changeOrder = none) : Orderless s s.endMove := by
  unfold State.endMove
  split
  · exact Orderless.refl s
  · exact (askStop_orderless s _).trans (setMove_orderless _ _)
  · exact (askStop_orderless s _).trans ((setPump_orderless _).trans (abandonChange_orderless _ _ _ _ _ h))

theorem stopExcess_orderless (s : State) : Orderless s s.stopExcess := by
  unfold State.stopExcess
  rw [askStops_eq]
  exact ⟨rfl, rfl, rfl, fun _ _ => rfl⟩

theorem startOne_orderless (s : State) : Orderless s s.startOne := by
  unfold State.startOne
  split
  · exact (askStart_orderless s _).trans (setMove_orderless _ _)
  · unfold State.fallShort State.setFlagIf
    split
    · exact (setDuty_orderless s _ (by rfl)).trans (setPump_orderless _)
    · exact setDuty_orderless s _ (by rfl)

theorem changeOver_orderless (s : State) : Orderless s s.changeOver := by
  unfold State.changeOver
  split
  · exact (askStart_orderless s _).trans (setMove_orderless _ _)
  · exact Orderless.refl s
  · exact Orderless.refl s

theorem reconcileOnce_orderless (s t : State) (h : s.duty.changeOrder = none) (ht : s.reconcileOnce = some t) :
    Orderless s t := by
  unfold State.reconcileOnce at ht
  split at ht
  · cases ht
    exact (endMove_orderless s h).trans (stopExcess_orderless _)
  · split at ht
    · cases ht
      exact startOne_orderless s
    · split at ht
      · cases ht
        exact changeOver_orderless s
      · cases ht

theorem applyPending_orderless (s : State) (h : s.duty.changeOrder = none) : Orderless s s.applyPending := by
  unfold State.applyPending
  split
  · exact setDuty_orderless s _ (by rfl)
  · have rotated := (setDuty_orderless s { s.duty with rotationPending := false } rfl).trans
      (setDuty_orderless _ { s.duty with rotationPending := false, roster := rotated s.duty.roster } rfl)
    dsimp only
    split
    · next t ht => exact rotated.trans (reconcileOnce_orderless _ t h ht)
    · exact rotated

theorem dutyEvent_orderless (s : State) (before : Duty) (h : s.duty.changeOrder = none) :
    Orderless s (s.dutyEvent before) := by
  have limited : Orderless s (s.setDuty { s.duty with limit := s.duty.limitOf }) := setDuty_orderless s _ rfl
  have reconciled : ∀ t : State, t.duty.changeOrder = none → Orderless t t.reconcile := by
    intro t ht
    unfold State.reconcile
    split
    · next u hu => exact reconcileOnce_orderless t u ht hu
    · split
      · exact applyPending_orderless t ht
      · exact Orderless.refl t
  have settled : ∀ t : State, Orderless t t.settleShortfall := by
    intro t
    unfold State.settleShortfall
    split
    · exact setDuty_orderless t _ (by rfl)
    · exact Orderless.refl t
  unfold State.dutyEvent
  dsimp only
  split
  · exact limited.trans ((reconciled _ (limited.change.trans h)).trans (settled _))
  · exact limited

/-- An event of the duty unit that changes neither its limit nor anything else does nothing. -/
theorem dutyEvent_same (s : State) (h : s.duty.limit = runningLimit s.duty) : s.dutyEvent s.duty = s := by
  have same : s.setDuty { s.duty with limit := s.duty.limitOf } = s := by
    rw [limitOf_eq, ← h]
    rfl
  have calm : s.duty.disturbed s.duty = false := by simp [Duty.disturbed]
  unfold State.dutyEvent
  dsimp only
  rw [same, calm]
  rfl

/-! ## The units at the release (R35, R85, R111, R136, R171) -/

/-- The registers with a flag of SUMMARY set if the condition holds. -/
def flaggedIf (c : Bool) (f : Flag) (p : Port) : Port :=
  { p with summary := if c then p.summary ||| f.mask else p.summary }

theorem setFlagIf_port (s : State) (c : Bool) (f : Flag) : (s.setFlagIf c f).port = flaggedIf c f s.port := by
  cases c <;> rfl

/-- Which flags stand after one is set if the condition holds. -/
theorem flaggedIf_summary (c : Bool) (f g : Flag) (p : Port) :
    (flaggedIf c f p).summary.getLsbD g.position = true ↔ p.summary.getLsbD g.position = true ∨ (c = true ∧ g = f) := by
  cases c
  · simp [flaggedIf]
  · cases f <;> cases g <;> simp [flaggedIf, Flag.mask, Flag.position]

/-- The suspect-change events of a release (R35). -/
def releaseMarks (s : State) : List TimeEvent :=
  if s.time.clock.suspect && !s.time.suspectAtFall then [.suspectChange true] else []

theorem releaseTime_eq (s : State) :
    s.releaseTime = { s with
      port := flaggedIf s.time.failedInHold .timebase s.port
      wires := { s.wires with
        toTide := s.wires.toTide ++ releaseMarks s, toAlarm := s.wires.toAlarm ++ releaseMarks s } } := by
  unfold State.releaseTime releaseMarks
  dsimp only
  split <;> cases s.time.failedInHold <;> simp [State.setFlagIf, State.sendSuspectChange, flaggedIf, State.setFlag]

/-- A pump re-evaluated is as its terms give it, whatever it was before. -/
theorem reevaluate_fold (l : List PumpNo) (s : State) :
    l.foldl State.reevaluate s =
      { s with pumps := { s.pumps with
          records := tab fun p => if p ∈ l then { s.pump p with available := s.canStart p } else s.pump p } } := by
  induction l generalizing s with
  | nil =>
    have same : (tab fun p => s.pump p) = s.pumps.records := table_ext _ _ fun p => sel_tab _ p
    simp [same]
  | cons q l ih =>
    have start : ∀ p, (s.reevaluate q).canStart p = s.canStart p := by
      intro p
      unfold State.reevaluate State.canStart
      rw [State.pump_setPump]
      split
      · next h => rw [h]; rfl
      · rfl
    have pump : ∀ p, (s.reevaluate q).pump p = if p = q then { s.pump q with available := s.canStart q } else s.pump p :=
      fun p => State.pump_setPump s q p _
    rw [List.foldl_cons, ih]
    have records : (tab fun p => if p ∈ l then { (s.reevaluate q).pump p with available := (s.reevaluate q).canStart p }
          else (s.reevaluate q).pump p) =
        tab fun p => if p ∈ q :: l then { s.pump p with available := s.canStart p } else s.pump p := by
      refine table_ext _ _ fun p => ?_
      simp only [sel_tab, start, pump, List.mem_cons]
      by_cases hq : p = q
      · subst hq
        simp
      · simp [hq]
    rw [records]
    rfl

theorem sendReport_fold (l : List PumpNo) (s : State) :
    l.foldl (fun (t : State) p => t.sendReport p false) s =
      { s with wires := { s.wires with pumpReports := s.wires.pumpReports ++ l.map fun p => s.pumpReport p false } } := by
  induction l generalizing s with
  | nil => simp
  | cons q l ih =>
    rw [List.foldl_cons, ih]
    simp only [State.sendReport, List.append_assoc, List.singleton_append, List.map_cons]
    rfl

/-- The pump records after a release (R171). -/
def releasedPumps (s : State) : PumpUnit :=
  { s.pumps with
    records := tab fun p => if s.pumpFitted p then { s.pump p with available := s.canStart p } else s.pump p }

theorem releasePumps_eq (s : State) :
    s.releasePumps = { s with
      pumps := releasedPumps s
      wires := { s.wires with
        pumpReports := s.wires.pumpReports ++ (indices s.pumpFitted).map fun p =>
          { pump := p, state := (s.pump p).state, service := (s.pump p).service, available := s.canStart p
            lastStop := (s.pump p).lastStop, refused := false } } } := by
  have records : (tab fun p => if p ∈ s.fittedPumpList then { s.pump p with available := s.canStart p } else s.pump p) =
      (releasedPumps s).records := by
    refine table_ext _ _ fun p => ?_
    simp only [releasedPumps, sel_tab, State.fittedPumpList, mem_indices]
  have fitted : ∀ p ∈ s.fittedPumpList, ({ s with pumps := releasedPumps s } : State).pumpReport p false =
      { pump := p, state := (s.pump p).state, service := (s.pump p).service, available := s.canStart p
        lastStop := (s.pump p).lastStop, refused := false } := by
    intro p hp
    have hp : s.pumpFitted p = true := (mem_indices _ _).mp hp
    have pump : ({ s with pumps := releasedPumps s } : State).pump p = { s.pump p with available := s.canStart p } := by
      show sel (releasedPumps s).records p = _
      rw [releasedPumps, sel_tab, if_pos hp]
    unfold State.pumpReport
    rw [pump]
  unfold State.releasePumps
  rw [reevaluate_fold, records, sendReport_fold]
  have reports := List.map_congr_left fitted
  exact congrArg (fun r => ({ s with
    pumps := releasedPumps s, wires := { s.wires with pumpReports := s.wires.pumpReports ++ r } } : State)) reports

/-- The re-arm at the release leaves what the derate floor and the hold state are made of (R103). -/
theorem release_floor (u : AlarmUnit) (now : Nat) (suspect : Bool) (live : List TideEvent) :
    (u.release now suspect live).floor = u.floor ∧ (u.release now suspect live).holdState = u.holdState := by
  have kept : ∀ a : Alarm, ((a.rearm now suspect live).active = a.active) ∧
      (a.rearm now suspect live).actions = a.actions ∧ (a.rearm now suspect live).derateValue = a.derateValue := by
    intro a
    unfold Alarm.rearm Alarm.arm
    split
    · split <;> exact ⟨rfl, rfl, rfl⟩
    · exact ⟨rfl, rfl, rfl⟩
  have record : ∀ i, sel (u.release now suspect live).records i = (sel u.records i).rearm now suspect live :=
    fun i => sel_tab _ i
  have floorPart : ∀ a : Alarm, (a.rearm now suspect live).floorPart = a.floorPart := by
    intro a
    obtain ⟨active, actions, value⟩ := kept a
    rw [Alarm.floorPart, Alarm.floorPart, active, actions, value]
  constructor
  · simp only [AlarmUnit.floor, record, floorPart]
  · simp only [AlarmUnit.holdState, record, (kept _).1, (kept _).2.1]

/-- The alarm unit after a release (R111). -/
def releasedAlarms (s : State) (t : Tide) : AlarmUnit :=
  s.alarm.release s.time.clock.minuteCount s.time.clock.suspect t.liveEdition

/-- The tide unit's copies loaded from the clock (R85). -/
def reloadedTide (s : State) : Tide := { s.tide with now := s.time.clock.minuteCount, suspect := s.time.clock.suspect }

/-- The units at the release, before the duty unit's event, in closed form. -/
def unitsReleased (s : State) : State :=
  { s with
    port := flaggedIf (tideAlert (reloadedTide s) (reloadedTide s).recomputed) .tide
      (flaggedIf s.time.failedInHold .timebase s.port)
    tide := (reloadedTide s).recomputed
    alarm := releasedAlarms s (reloadedTide s).recomputed
    pumps := releasedPumps s
    wires := { s.wires with
      toTide := s.wires.toTide ++ releaseMarks s
      toAlarm := s.wires.toAlarm ++ releaseMarks s
      actionChanges := s.wires.actionChanges ++ [(s.alarm.floor, s.alarm.holdState)]
      chokeChanges := s.wires.chokeChanges ++ [false]
      pumpReports := s.wires.pumpReports ++ (indices s.pumpFitted).map fun p =>
        { pump := p, state := (s.pump p).state, service := (s.pump p).service, available := s.canStart p
          lastStop := (s.pump p).lastStop, refused := false } } }

theorem releaseUnits_eq (s : State) : s.releaseUnits = (unitsReleased s).dutyEvent s.duty := by
  have alarms : ∀ u : State, u.releaseAlarms = { u with
      alarm := releasedAlarms u u.tide
      wires := { u.wires with
        actionChanges := u.wires.actionChanges ++ [(u.alarm.floor, u.alarm.holdState)] } } := by
    intro u
    obtain ⟨floor, hold⟩ := release_floor u.alarm u.time.clock.minuteCount u.time.clock.suspect u.tide.liveEdition
    unfold State.releaseAlarms State.sendActionChange
    dsimp only
    rw [floor, hold]
    rfl
  unfold State.releaseUnits
  rw [releaseTime_eq, State.releaseTide, recompute_eq, setFlagIf_port, alarms, releasePumps_eq]
  rfl

end Sys2Proof
end


/-!
# The release of RESET_N

The sweep and the restarts put together.
-/

section
namespace Sys2Proof

open Sys2Proof.Machine

/-! ## What the sweep leaves (R23) -/

/-- A sweep makes no reference to an order. -/
theorem sweepEntry_wash (s : State) (e : Entry) (n : ScreenNo) (o : WashOrder)
    (h : ((s.sweepEntry e).screen n).washOrder = some o) : (s.screen n).washOrder = some o := by
  unfold State.sweepEntry at h
  split at h
  case h_1 => simpa only [State.screen, State.complete_screens] using h
  case h_2 | h_3 =>
    simp only [State.screen, State.complete_screens] at h
    exact ((dropHolders_wash e s n o).mp h).1
  case h_4 | h_5 => exact h

theorem sweepEntry_change (s : State) (e : Entry) (o : ChangeOrder)
    (h : (s.sweepEntry e).duty.changeOrder = some o) : s.duty.changeOrder = some o := by
  unfold State.sweepEntry at h
  split at h
  case h_1 => simpa only [State.complete_duty] using h
  case h_2 | h_3 =>
    rw [State.complete_duty] at h
    exact ((dropHolders_change e s o).mp h).1
  case h_4 | h_5 => exact h

/-- The table swept. It is opaque to the unifier, which would run the sweep of all 32 entries. -/
@[irreducible] def sweptTable (s : State) : State := sweptOf (List.finRange 32) s

theorem sweptTable_eq (s : State) : sweptTable s = sweptOf (List.finRange 32) s := by
  unfold sweptTable
  rfl

theorem sweep_eq_sweptTable (s : State) : s.sweep = { sweptTable s with intake := [] } := by
  rw [sweptTable_eq, sweep_eq]

theorem sweptTable_at (s : State) (f : Entry) (h : Memory.wf s.mem = true) :
    ∃ u, SameAt f s u ∧ Memory.wf u.mem = true ∧ SameAt f (u.sweepEntry f) (sweptTable s) := by
  rw [sweptTable_eq]
  exact sweptOf_at _ s f h (List.nodup_finRange 32) (List.mem_finRange f)

/-- No unit holds an entry after the sweep. -/
theorem sweptTable_unheld (s : State) (h : Owes [] s) :
    (∀ n, ((sweptTable s).screen n).washOrder = none) ∧ (sweptTable s).duty.changeOrder = none := by
  constructor
  · intro n
    cases ho : ((sweptTable s).screen n).washOrder with
    | none => rfl
    | some o =>
      obtain ⟨u, before, -, after⟩ := sweptTable_at s o.entry h.wf
      have hu := (after.wash n o rfl).mp ho
      have held : o.entry ∈ holders s := (mem_holders s _).mpr
        (Or.inl ⟨n, o, (before.wash n o rfl).mp (sweepEntry_wash u _ n o hu), rfl⟩)
      have hand := (h.taken o.entry).mp held
      rw [← before.hand] at hand
      exact absurd rfl ((sweepEntry_unheld u o.entry hand).1 n o hu)
  · cases ho : (sweptTable s).duty.changeOrder with
    | none => rfl
    | some o =>
      obtain ⟨u, before, -, after⟩ := sweptTable_at s o.entry h.wf
      have hu := (after.change o rfl).mp ho
      have held : o.entry ∈ holders s := (mem_holders s _).mpr
        (Or.inr ⟨o, (before.change o rfl).mp (sweepEntry_change u _ o hu), rfl⟩)
      have hand := (h.taken o.entry).mp held
      rw [← before.hand] at hand
      exact absurd rfl ((sweepEntry_unheld u o.entry hand).2 o hu)

/-- A FREE or DONE entry stands as it was. -/
theorem sweptTable_rest (s : State) (e : Entry) (hw : Memory.wf s.mem = true) (h : sweeps (s.hand e) = false) :
    (sweptTable s).hand e = s.hand e ∧ ∀ o, o < 32 → (sweptTable s).entryWord e o = s.entryWord e o := by
  obtain ⟨u, before, -, after⟩ := sweptTable_at s e hw
  rw [sweepEntry_rest u e (by rw [before.hand]; exact h)] at after
  have same := before.trans after
  exact ⟨same.hand, same.words⟩

/-- The tag that the sweep writes is that of the unit that holds the entry. -/
theorem heldTag_sameAt {s u : State} {e : Entry} (h : SameAt e s u) (once : (holders s).Nodup) :
    (∀ n o, (s.screen n).washOrder = some o → o.entry = e → u.heldTag e = some o.tag) ∧
      ∀ o, s.duty.changeOrder = some o → o.entry = e → u.heldTag e = some o.tag := by
  have same : (fun m => (u.screen m).holds e) = fun m => (s.screen m).holds e := by
    funext m
    rw [Bool.eq_iff_iff, screen_holds_iff, screen_holds_iff]
    exact exists_congr fun o => and_congr_left fun ho => h.wash m o ho
  unfold State.heldTag
  rw [same]
  constructor
  · rintro n o ho rfl
    rw [washHolders_eq once ho]
    simp [(h.wash n o rfl).mpr ho]
  · rintro o ho rfl
    have held : u.duty.holds o.entry = true := (duty_holds_iff _ _).mpr ⟨o, (h.change o rfl).mpr ho, rfl⟩
    rw [washHolders_of_change once ho]
    simp [held, (h.change o rfl).mpr ho]

/-- A POSTED, TAKEN or CANCEL entry is completed RESTARTED, with no answer and the tag copied at its take (R23). -/
theorem sweptTable_done (s : State) (e : Entry) (ho : Owes [] s) (h : sweeps (s.hand e) = true) :
    (sweptTable s).hand e = .done ∧ (sweptTable s).entryWord e 16 = 12 ∧
      (∀ k, k < 15 → (sweptTable s).entryWord e (17 + k) = 0) ∧
      (∀ w, 1 ≤ w → w ≤ 15 → w ≠ 2 → (sweptTable s).entryWord e w = s.entryWord e w) ∧
      (s.hand e = .posted → (sweptTable s).entryWord e 2 = s.entryWord e 2) ∧
      (∀ n o, (s.screen n).washOrder = some o → o.entry = e → (sweptTable s).entryWord e 2 = o.tag) ∧
      ∀ o, s.duty.changeOrder = some o → o.entry = e → (sweptTable s).entryWord e 2 = o.tag := by
  obtain ⟨u, before, wf, after⟩ := sweptTable_at s e ho.wf
  obtain ⟨hand, words⟩ := sweepEntry_words u e wf (by rw [before.hand]; exact h)
  have word := fun w (h1 : 1 ≤ w) (h32 : w < 32) => (after.words w h32).trans (words w h1 h32)
  have tag : (sweptTable s).entryWord e 2 = (sweptTag u e).getD (u.entryWord e 2) := word 2 (by omega) (by omega)
  obtain ⟨washTag, changeTag⟩ := heldTag_sameAt before ho.heldOnce
  have takenTag : (s.hand e = .taken ∨ s.hand e = .cancel) → sweptTag u e = u.heldTag e := by
    intro ht
    unfold sweptTag
    rw [before.hand]
    rcases ht with ht | ht <;> rw [ht]
  refine ⟨after.hand.trans hand, word 16 (by omega) (by omega), fun k hk => ?_, fun w h1 h15 h2 => ?_, fun hp => ?_,
    fun n o hn he => ?_, fun o hc he => ?_⟩
  · rw [word (17 + k) (by omega) (by omega), if_pos (by omega), show 17 + k - 16 = k + 1 by omega,
      List.getD_cons_succ, answerWords_getD [] k hk]
    rfl
  · rw [word w h1 (by omega), if_neg (by omega), if_neg h2]
    exact before.words w (by omega)
  · have none : sweptTag u e = none := by
      unfold sweptTag
      rw [before.hand, hp]
    rw [tag, none]
    exact before.words 2 (by omega)
  · have held := (ho.taken e).mp ((mem_holders s e).mpr (Or.inl ⟨n, o, hn, he⟩))
    rw [tag, takenTag held, washTag n o hn he]
    rfl
  · have held := (ho.taken e).mp ((mem_holders s e).mpr (Or.inr ⟨o, hc, he⟩))
    rw [tag, takenTag held, changeTag o hc he]
    rfl

/-! ## The release of RESET_N, whole -/

/-- The part as the release finds it, running again. -/
def resumed (s : State) : State := { s with resetLow := false, phase := .running }

theorem resumed_owes {s : State} (h : ExchangeInv s) : Owes [] (resumed s) :=
  h.owes.of_perm rfl rfl rfl (List.Perm.refl _)

/-- The state in which the units restart: the part runs, the table is swept, STARTED is set. -/
def sweptPart (s : State) : State := ({ sweptTable (resumed s) with intake := [] }).setFlag .started

theorem resetRelease_held (s : State) (h : s.phase = .held) :
    s.resetRelease = (unitsReleased (sweptPart s)).dutyEvent (sweptPart s).duty := by
  have released : s.resetRelease = ((resumed s).sweep.setFlag .started).releaseUnits := by
    unfold State.resetRelease
    rw [h]
    rfl
  rw [released, sweep_eq_sweptTable, releaseUnits_eq]
  rfl

theorem resetRelease_idle (s : State) (h : s.phase ≠ .held) : s.resetRelease = { s with resetLow := false } := by
  unfold State.resetRelease
  cases hp : s.phase
  case held => exact absurd hp h
  all_goals rfl

theorem sweptTable_swept (s : State) : Swept s (sweptTable s) := by
  rw [sweptTable_eq]
  exact sweptOf_swept _ s

/-- The sweep takes the state as it stands but for memory, hands, SUMMARY and the references to orders. -/
theorem sweptPart_frame (s : State) :
    sweptPart s = { s with
      phase := .running, resetLow := false, intake := [], mem := (sweptPart s).mem, hands := (sweptPart s).hands
      port := { s.port with summary := (sweptPart s).port.summary }, screens := (sweptPart s).screens
      duty := { s.duty with changeOrder := (sweptPart s).duty.changeOrder } } :=
  congrArg (fun t : State => State.setFlag .started { t with intake := [] }) (sweptTable_swept (resumed s)).frame

theorem sweptPart_started (s : State) : (sweptPart s).flag .started = true := State.flag_setFlag_same _ _

/-- The sweep and the release set no flag but STARTED and ORDER_DONE. -/
theorem sweptPart_flag (s : State) (f : Flag) (hs : f ≠ .started) (ho : f ≠ .orderDone) :
    (sweptPart s).flag f = s.flag f := by
  have swept := sweptOf_flag (List.finRange 32) (resumed s) f ho
  rw [← sweptTable_eq] at swept
  exact (State.flag_setFlag_ne _ _ _ hs).trans swept

theorem sweptPart_orderDone (s : State) (h : Memory.wf s.mem = true) :
    (sweptPart s).flag .orderDone = true ↔ s.flag .orderDone = true ∨ ∃ e, sweeps (s.hand e) = true := by
  have done := sweptOf_orderDone (List.finRange 32) (resumed s) h (List.nodup_finRange 32)
  rw [← sweptTable_eq] at done
  have started : (sweptPart s).flag .orderDone = (sweptTable (resumed s)).flag .orderDone :=
    State.flag_setFlag_ne _ _ _ (by simp)
  rw [started, done]
  simp only [List.mem_finRange, true_and]
  rfl

theorem sweptPart_screen (s : State) (n : ScreenNo) :
    (sweptPart s).screen n = { s.screen n with washOrder := ((sweptPart s).screen n).washOrder } :=
  (sweptTable_swept (resumed s)).screen n

/-- A recomputation keeps the live edition. -/
theorem recomputed_liveEdition (t : Tide) : t.recomputed.liveEdition = t.liveEdition := by
  obtain ⟨a, b, live, -, -⟩ := recomputed_keeps t
  unfold Tide.liveEdition Tide.edition
  rw [a, b, live]

/-- The flags after the units' restarts. -/
theorem unitsReleased_flag (s : State) (f : Flag) :
    (unitsReleased s).flag f = true ↔ s.flag f = true ∨ (s.time.failedInHold = true ∧ f = .timebase) ∨
      (tideAlert (reloadedTide s) (reloadedTide s).recomputed = true ∧ f = .tide) := by
  unfold State.flag unitsReleased
  dsimp only
  rw [flaggedIf_summary, flaggedIf_summary, or_assoc]

theorem memWord_congr {s t : State} (hm : t.mem = s.mem) (hh : t.hands = s.hands) (a : Nat) : t.memWord a = s.memWord a := by
  unfold State.memWord State.hand
  rw [hm, hh]

/-- The part after a release holds what the sweep left: the restarts and the duty unit's event change no order. -/
structure HoldsSweep (s t : State) : Prop where
  word : ∀ e o, t.entryWord e o = (sweptTable (resumed s)).entryWord e o
  hand : ∀ e, t.hand e = (sweptTable (resumed s)).hand e
  screen : ∀ n, t.screen n = (sweptTable (resumed s)).screen n
  mem : t.mem = (sweptTable (resumed s)).mem
  change : t.duty.changeOrder = none
  phase : t.phase = .running
  resetLow : t.resetLow = false
  intake : t.intake = []
  flag : ∀ f, f ≠ .pump → t.flag f = (unitsReleased (sweptPart s)).flag f

theorem released_holdsSweep (s : State) (h : ExchangeInv s) :
    HoldsSweep s ((unitsReleased (sweptPart s)).dutyEvent (sweptPart s).duty) := by
  obtain ⟨-, free⟩ := sweptTable_unheld _ (resumed_owes h)
  have calm := dutyEvent_orderless (unitsReleased (sweptPart s)) (sweptPart s).duty free
  have duty := dutyEvent_dutyOnly (unitsReleased (sweptPart s)) (sweptPart s).duty
  have running : (sweptPart s).phase = .running := by rw [sweptPart_frame]
  have high : (sweptPart s).resetLow = false := by rw [sweptPart_frame]
  generalize (unitsReleased (sweptPart s)).dutyEvent (sweptPart s).duty = t at calm duty
  refine ⟨fun e o => memWord_congr calm.mem calm.hands _, fun e => ?_, fun n => ?_, calm.mem, calm.change.trans free, ?_, ?_,
    ?_, calm.flag⟩
  · unfold State.hand
    rw [calm.hands]
    rfl
  · rw [duty]
    rfl
  · rw [duty]
    exact running
  · rw [duty]
    exact high
  · rw [duty]
    rfl

end Sys2Proof

open Sys2Proof Sys2Proof.Machine

/-- Settles O26: the sweep entry by entry, then the restarts of the units in closed form, then the duty unit's event, which
holds no change order any more and finds its limit as it was. -/
theorem resetReleaseSweepsAndRestarts : Obligations.ResetReleaseSweepsAndRestarts := by
  refine ⟨⟨fun s h => congrArg Host.Outcome.next (resetRelease_idle s h), fun s hp hx => ?_⟩, fun s hp hl => ?_⟩
  · have owes := resumed_owes hx
    have exec : exec .resetNRelease s = .next ((unitsReleased (sweptPart s)).dutyEvent (sweptPart s).duty) :=
      congrArg Host.Outcome.next (resetRelease_held s hp)
    obtain ⟨washFree, -⟩ := sweptTable_unheld _ owes
    have sweep := released_holdsSweep s hx
    generalize (unitsReleased (sweptPart s)).dutyEvent (sweptPart s).duty = t at exec sweep
    obtain ⟨word, hand, screen, mem, change, running, high, intake, flag⟩ := sweep
    obtain ⟨wf, bulk⟩ := sweptOf_memory (List.finRange 32) (resumed s) owes.wf
    rw [← sweptTable_eq] at wf bulk
    have held : ∀ e, (s.hand e = .taken ∨ s.hand e = .cancel) → sweeps (s.hand e) = true := by
      rintro e (he | he) <;> rw [he] <;> rfl
    refine ⟨t, exec, running, high, intake, ?_, ?_, fun n => ?_, change, mem ▸ wf,
      fun a ha => by rw [mem]; exact bulk a ha, fun e he => ?_, fun e hf hd => ?_, fun e he => ?_,
      fun n o hn => ?_, fun o hc => ?_⟩
    · rw [flag _ (by simp), unitsReleased_flag]
      exact Or.inl (sweptPart_started s)
    · rw [flag _ (by simp), unitsReleased_flag, sweptPart_orderDone s owes.wf]
      simp [sweeps_iff]
    · have kept := (sweptTable_swept (resumed s)).screen n
      rw [washFree n] at kept
      exact (screen n).trans kept
    · obtain ⟨same, words⟩ := sweptTable_rest (resumed s) e owes.wf (by
        show sweeps (s.hand e) = false
        rcases he with he | he <;> rw [he] <;> rfl)
      exact ⟨(hand e).trans same, fun o _ ho => (word e o).trans (words o ho)⟩
    · obtain ⟨done, result, answers, rest, -⟩ := sweptTable_done (resumed s) e owes ((sweeps_iff _).mpr ⟨hf, hd⟩)
      exact ⟨(hand e).trans done, (word e 16).trans result, fun k hk => (word e _).trans (answers k hk),
        (word e 1).trans (rest 1 (by omega) (by omega) (by omega)),
        fun o h3 h15 => (word e o).trans (rest o (by omega) h15 (by omega))⟩
    · have he' : sweeps (s.hand e) = true := by rw [he]; rfl
      obtain ⟨-, -, -, -, posted, -⟩ := sweptTable_done (resumed s) e owes he'
      exact (word e 2).trans (posted he)
    · have taken := held _ ((owes.taken o.entry).mp ((mem_holders (resumed s) _).mpr (Or.inl ⟨n, o, hn, rfl⟩)))
      obtain ⟨-, -, -, -, -, tag, -⟩ := sweptTable_done (resumed s) o.entry owes taken
      exact (word _ 2).trans (tag n o hn rfl)
    · have taken := held _ ((owes.taken o.entry).mp ((mem_holders (resumed s) _).mpr (Or.inr ⟨o, hc, rfl⟩)))
      obtain ⟨-, -, -, -, -, -, tag⟩ := sweptTable_done (resumed s) o.entry owes taken
      exact (word _ 2).trans (tag o hc rfl)
  · have limit : (sweptPart s).duty.limit = runningLimit (sweptPart s).duty := by
      rw [sweptPart_frame]
      exact hl
    have exec : exec .resetNRelease s = .next (unitsReleased (sweptPart s)) := by
      refine (congrArg Host.Outcome.next (resetRelease_held s hp)).trans ?_
      exact congrArg Host.Outcome.next (dutyEvent_same (unitsReleased (sweptPart s)) limit)
    have flag := unitsReleased_flag (sweptPart s)
    have sweptFlag := sweptPart_flag s
    have screen := sweptPart_screen s
    have frame := sweptPart_frame s
    generalize sweptPart s = u at exec flag sweptFlag screen frame
    generalize u.mem = mem, u.hands = hands, u.port.summary = summary, u.screens = screens,
      u.duty.changeOrder = order at frame
    subst frame
    have alert : tideAlert (reloadedTide s) (reloadedTide s).recomputed = true ↔
        (s.tide.valid = true ∧ (reloadedTide s).recomputed.valid = false) ∨
          (s.tide.short = false ∧ (reloadedTide s).recomputed.short = true) := by
      simp [tideAlert, reloadedTide]
    have live : (reloadedTide s).recomputed.liveEdition = s.tide.liveEdition := recomputed_liveEdition (reloadedTide s)
    refine ⟨_, exec, rfl, fun f hf => ?_, screen, ?_, ?_, rfl, rfl, rfl, rfl, rfl, fun i he hk => ?_, fun i hn => ?_, rfl, rfl,
      fun p hf => ?_, fun p hf => ?_, rfl⟩
    · simp only [List.mem_cons, List.not_mem_nil, or_false, not_or] at hf
      obtain ⟨hs, ho, hb, ht⟩ := hf
      rw [Bool.eq_iff_iff, flag, sweptFlag f hs ho]
      simp [hb, ht]
    · rw [flag, sweptFlag .timebase (by simp) (by simp)]
      simp
    · rw [flag, sweptFlag .tide (by simp) (by simp)]
      refine (or_congr Iff.rfl ?_).trans (or_congr Iff.rfl alert)
      exact ⟨fun h => h.elim (fun h => nomatch h.2) fun h => h.1, fun h => Or.inr ⟨h, rfl⟩⟩
    · refine (sel_tab _ i).trans ?_
      unfold Alarm.rearm
      rw [if_pos (by simp [he, hk])]
      exact congrArg (fun l => Alarm.arm _ _ l _) live
    · refine (sel_tab _ i).trans ?_
      unfold Alarm.rearm
      rw [if_neg (by simpa using hn)]
    · exact (sel_tab _ p).trans (if_pos hf)
    · exact (sel_tab _ p).trans (if_neg fun h => Bool.false_ne_true (hf.symm.trans h))

end


/-!
# Invariants of the exchange and of the held part

Every command keeps the exchange in order and the held part at rest.
-/

section
namespace Sys2Proof

open Sys2Proof.Machine

/-! ## Power and RESET_N in the queue of commands -/

/-- The release leaves the frame of the part that runs again. -/
theorem released_sameFrame (s : State) :
    SameFrame (resumed s) ((unitsReleased (sweptPart s)).dutyEvent (sweptPart s).duty) := by
  have swept : SameFrame (resumed s) (sweptPart s) := by
    rw [sweptPart_frame]
    exact ⟨rfl, rfl, rfl, rfl⟩
  have units : SameFrame (sweptPart s) (unitsReleased (sweptPart s)) := ⟨rfl, rfl, rfl, rfl⟩
  exact swept.trans (units.trans (dutyEvent_dutyOnly _ _).sameFrame)

/-- Power and RESET_N leave the queue of commands, and all but an application of power the fitted counts. -/
theorem reset_keepsQueue (c : Instr) (s : State) (h : isReset c = true) :
    ∃ t, exec c s = .next t ∧ t.pending = s.pending ∧
      ((∀ a b, c ≠ .powerApplication a b) → t.fittedScreens = s.fittedScreens ∧ t.fittedPumps = s.fittedPumps) := by
  cases c
  case powerApplication a b => exact ⟨_, rfl, rfl, fun hc => absurd rfl (hc a b)⟩
  case supplyLoss => exact ⟨_, rfl, rfl, fun _ => ⟨rfl, rfl⟩⟩
  case coldStartUpCompletion =>
    refine ⟨_, rfl, ?_⟩
    unfold State.startUp
    split
    · split <;> exact ⟨rfl, fun _ => ⟨rfl, rfl⟩⟩
    all_goals exact ⟨rfl, fun _ => ⟨rfl, rfl⟩⟩
  case resetNFall =>
    refine ⟨_, rfl, ?_⟩
    unfold State.resetFall
    split <;> exact ⟨rfl, fun _ => ⟨rfl, rfl⟩⟩
  case resetNRelease =>
    refine ⟨_, rfl, ?_⟩
    by_cases hp : s.phase = .held
    · have frame := released_sameFrame s
      rw [resetRelease_held s hp]
      exact ⟨frame.pending, fun _ => ⟨frame.fittedScreens, frame.fittedPumps⟩⟩
    · rw [resetRelease_idle s hp]
      exact ⟨rfl, fun _ => ⟨rfl, rfl⟩⟩
  all_goals cases h

/-! ## A part that does not run -/

/-- The commands that a part which does not run obeys leave every order where it is, power and RESET_N apart. -/
theorem exec_quiet_idle (c : Instr) (s : State) (hr : isReset c = false) (hp : s.phase ≠ .running) :
    ∃ t, exec c s = .next t ∧ Quiet s t := by
  by_cases hc : runningOnly c = true
  · exact ⟨s, exec_idle c s hc hp, Quiet.refl s⟩
  have stored : ∀ (fitted old level : Bool) (store event : State → State), Quiet s (store s) →
      Quiet s (s.line fitted old level store event) := by
    intro fitted old level store event hs
    unfold State.line
    split
    · split
      · exact Quiet.refl s
      · exact Quiet.refl s
      · exact hs
      · next h => exact absurd h hp
    · exact Quiet.refl s
  cases c
  case powerApplication | coldStartUpCompletion | supplyLoss | resetNFall | resetNRelease => cases hr
  case crystalConfirmed => exact ⟨_, rfl, crystalConfirmed_quiet s⟩
  case crystalFailure => exact ⟨_, rfl, crystalFailure_quiet s⟩
  case confirmPeriodRestart => exact ⟨_, rfl, confirmRestart_quiet s⟩
  case secondStep => exact ⟨_, rfl, secondStep_quiet s⟩
  case turnEdge n level => exact ⟨_, rfl, stored _ _ _ _ _ (setScreen_quiet s n _ (by rfl))⟩
  case overloadEvent n level => exact ⟨_, rfl, stored _ _ _ _ _ (setScreen_quiet s n _ (by rfl))⟩
  case proofEdge p => exact ⟨_, rfl, pumpLine_quiet p _ _ _ s (setPump_quiet p _ s) (proof_quiet p)⟩
  case proofDrop p => exact ⟨_, rfl, pumpLine_quiet p _ _ _ s (setPump_quiet p _ s) (unproof_quiet p)⟩
  case motorFaultEvent p => exact ⟨_, rfl, pumpLine_quiet p _ _ _ s (setPump_quiet p _ s) (motorFault_quiet p)⟩
  case motorFaultClear p =>
    exact ⟨_, rfl, pumpLine_quiet p _ _ _ s (setPump_quiet p _ s) fun t => pumpEvent_quiet p _ t⟩
  case restartDelayEnd p => exact ⟨_, rfl, restartDelayEnd_quiet p s⟩
  all_goals exact absurd rfl hc

/-- A held part that counts and stores: time, levels and counts can change, no state of a screen or a pump. -/
structure Rests (s t : State) : Prop where
  frame : t = { s with time := t.time, screens := t.screens, pumps := t.pumps }
  screen : ∀ n, (t.screen n).state = (s.screen n).state ∧ (t.screen n).fast = (s.screen n).fast
  pump : ∀ p, (t.pump p).state = (s.pump p).state

theorem Rests.refl (s : State) : Rests s s := ⟨rfl, fun _ => ⟨rfl, rfl⟩, fun _ => rfl⟩

theorem Rests.of_time (s : State) (x : TimeUnit) : Rests s { s with time := x } :=
  ⟨rfl, fun _ => ⟨rfl, rfl⟩, fun _ => rfl⟩

theorem Rests.of_held {s : State} (h : s.phase = .held) (x : TimeUnit) : Rests s { s with phase := .held, time := x } := by
  rw [← h]
  exact Rests.of_time s x

/-- What rests keeps what a held part holds. -/
theorem Rests.heldInv {s t : State} (h : Rests s t) (i : HeldInv s) : HeldInv t := by
  have frame := h.frame
  intro hp
  rw [frame] at hp
  obtain ⟨low, port, wires, screens, pumps, slots, queue, move⟩ := i hp
  have fitted : ∀ n, t.screenFitted n = s.screenFitted n := fun n => by rw [frame]; rfl
  have fittedPump : ∀ p, t.pumpFitted p = s.pumpFitted p := fun p => by rw [frame]; rfl
  refine ⟨by rw [frame, low], by rw [frame, port], by rw [frame, wires], fun n hn => ?_, fun p hn => ?_,
    by rw [frame, slots], by rw [frame, queue], by rw [frame, move]⟩
  · obtain ⟨state, fast⟩ := h.screen n
    rw [state, fast]
    exact screens n (fitted n ▸ hn)
  · rw [h.pump p]
    exact pumps p (fittedPump p ▸ hn)

theorem setScreen_rests (s : State) (n : ScreenNo) (x : Screen) (h : x.state = (s.screen n).state)
    (h' : x.fast = (s.screen n).fast) : Rests s (s.setScreen n x) := by
  refine ⟨rfl, fun m => ?_, fun _ => rfl⟩
  rw [State.screen_setScreen]
  split
  · next hm => exact hm ▸ ⟨h, h'⟩
  · exact ⟨rfl, rfl⟩

theorem setPump_rests (s : State) (p : PumpNo) (x : Pump) (h : x.state = (s.pump p).state) : Rests s (s.setPump p x) := by
  refine ⟨rfl, fun _ => ⟨rfl, rfl⟩, fun q => ?_⟩
  rw [State.pump_setPump]
  split
  · next hq => exact hq ▸ h
  · rfl

/-- A second of a pump leaves its state. -/
theorem pumpSecond_state (x : Pump) : x.second.state = x.state := by
  unfold Pump.second
  dsimp only
  split
  · split <;> rfl
  all_goals rfl

/-- A source cycle leaves a held part at rest. -/
theorem sourceCycle_rests (s : State) : Rests s s.sourceCycle := by
  unfold State.sourceCycle
  split
  · exact Rests.refl s
  all_goals exact Rests.of_time s _

/-- Every command but power and RESET_N leaves a held part at rest (R22, log 15). -/
theorem exec_rests (c : Instr) (s : State) (hr : isReset c = false) (hp : s.phase = .held) :
    ∃ t, exec c s = .next t ∧ Rests s t := by
  by_cases hc : runningOnly c = true
  · exact ⟨s, exec_idle c s hc (by simp [hp]), Rests.refl s⟩
  have stored : ∀ (fitted old level : Bool) (store event : State → State), Rests s (store s) →
      Rests s (s.line fitted old level store event) := by
    intro fitted old level store event hs
    unfold State.line
    rw [hp]
    split
    · exact hs
    · exact Rests.refl s
  have pumpStored : ∀ (p : PumpNo) (changes : Bool) (store event : State → State), Rests s (store s) →
      Rests s (s.pumpLine p changes store event) := by
    intro p changes store event hs
    unfold State.pumpLine
    rw [hp]
    split
    · exact hs
    · exact Rests.refl s
  cases c
  case powerApplication | coldStartUpCompletion | supplyLoss | resetNFall | resetNRelease => cases hr
  case crystalConfirmed =>
    refine ⟨_, rfl, ?_⟩
    unfold State.crystalConfirmed
    rw [hp]
    exact Rests.of_held hp _
  case crystalFailure =>
    refine ⟨_, rfl, ?_⟩
    unfold State.crystalFailure
    rw [hp]
    split <;> exact Rests.of_held hp _
  case confirmPeriodRestart =>
    refine ⟨_, rfl, ?_⟩
    unfold State.confirmRestart
    rw [hp]
    exact Rests.of_held hp _
  case secondStep =>
    refine ⟨_, rfl, ?_⟩
    unfold State.secondStep
    rw [hp]
    refine ⟨rfl, fun _ => ⟨rfl, rfl⟩, fun p => ?_⟩
    exact (congrArg Pump.state (sel_tab _ p)).trans (pumpSecond_state _)
  case turnEdge n level => exact ⟨_, rfl, stored _ _ _ _ _ (setScreen_rests s n _ (by rfl) (by rfl))⟩
  case overloadEvent n level => exact ⟨_, rfl, stored _ _ _ _ _ (setScreen_rests s n _ (by rfl) (by rfl))⟩
  case proofEdge p | proofDrop p | motorFaultEvent p | motorFaultClear p =>
    exact ⟨_, rfl, pumpStored p _ _ _ (setPump_rests s p _ (by rfl))⟩
  case restartDelayEnd p =>
    refine ⟨_, rfl, ?_⟩
    unfold State.restartDelayEnd
    rw [hp]
    split
    · exact setPump_rests s p _ rfl
    · exact Rests.refl s
  all_goals exact absurd rfl hc

/-! ## The hold (R22) -/

theorem hold_screen (s : State) (n : ScreenNo) :
    s.hold.screen n = if s.screenFitted n then (s.screen n).fall else s.screen n := sel_tab _ n

theorem hold_pump (s : State) (p : PumpNo) :
    s.hold.pump p = if s.pumpFitted p then (s.pump p).fall else s.pump p := sel_tab _ p

/-- The hold keeps every order where it is, its move abandoned without a report. -/
theorem hold_exchangeInv (s : State) (h : Owes [] s) : ExchangeInv s.hold := by
  refine (h.of_perm rfl rfl rfl ?_ : Owes [] s.hold).exchangeInv fun hp => ?_
  · rw [holders_congr (t := s.hold) (s := s) (fun n => ?_) rfl]
    rw [hold_screen]
    split <;> rfl
  · rcases hp with hp | hp <;> cases hp

theorem hold_heldInv (s : State) (h : s.resetLow = true) : HeldInv s.hold := by
  refine fun _ => ⟨h, rfl, rfl, fun n hn => ?_, fun p hp => ?_, rfl, rfl, rfl⟩
  · have hn : s.screenFitted n = true := hn
    rw [hold_screen, if_pos hn]
    exact ⟨rfl, rfl⟩
  · have hp : s.pumpFitted p = true := hp
    rw [hold_pump, if_pos hp]
    rfl

/-! ## Power (R20) -/

/-- No order stands after an application of power. -/
theorem powerOn_exchangeInv (a b : BitVec 3) (s : State) : ExchangeInv (s.powerOn a b) := by
  have hand : ∀ e, (s.powerOn a b).hand e = .free := fun e => sel_tab _ e
  have wash : ∀ n, ((s.powerOn a b).screen n).washOrder = none := fun n => congrArg Screen.washOrder (sel_tab _ n)
  have none : holders (s.powerOn a b) = [] := by
    rw [holders_eq]
    simp only [wash]
    rfl
  refine ⟨rfl, List.nodup_nil, fun e => ?_, by rw [none]; exact List.nodup_nil, fun e => ?_, fun _ => rfl⟩
  · rw [hand]
    simp [show (s.powerOn a b).intake = [] from rfl]
  · rw [none, hand]
    simp

/-! ## The release (R23) -/

/-- Every order is completed and none stands when the units restart. -/
theorem unitsReleased_exch (s : State) (h : ExchangeInv s) (hm : s.duty.move = .none) :
    Exch [] (unitsReleased (sweptPart s)) := by
  have owes := resumed_owes h
  obtain ⟨wash, change⟩ := sweptTable_unheld _ owes
  have wf : Memory.wf (sweptTable (resumed s)).mem = true := by
    rw [sweptTable_eq]
    exact (sweptOf_memory _ _ owes.wf).1
  have hand : ∀ e, (unitsReleased (sweptPart s)).hand e = .free ∨ (unitsReleased (sweptPart s)).hand e = .done := by
    intro e
    show (sweptTable (resumed s)).hand e = .free ∨ (sweptTable (resumed s)).hand e = .done
    cases hs : sweeps ((resumed s).hand e) with
    | true => exact Or.inr (sweptTable_done _ e owes hs).1
    | false =>
      rw [(sweptTable_rest _ e owes.wf hs).1]
      by_contra hf
      rw [not_or] at hf
      rw [(sweeps_iff _).mpr hf] at hs
      cases hs
  have none : holders (unitsReleased (sweptPart s)) = [] := by
    refine List.eq_nil_iff_forall_not_mem.mpr fun e he => ?_
    rcases (mem_holders _ e).mp he with ⟨n, o, ho, -⟩ | ⟨o, ho, -⟩
    · exact nomatch (wash n).symm.trans ho
    · exact nomatch change.symm.trans ho
  have frame := sweptPart_frame s
  refine ⟨⟨wf, List.nodup_nil, fun e => ?_, by rw [none]; exact List.nodup_nil, fun e => ?_⟩, ?_, ?_⟩
  · rcases hand e with he | he <;> simp [he, show (unitsReleased (sweptPart s)).intake = [] from rfl]
  · rw [none]
    rcases hand e with he | he <;> simp [he]
  · exact congrArg State.phase frame
  · have order : (unitsReleased (sweptPart s)).duty.changeOrder = Option.none := change
    have move : (unitsReleased (sweptPart s)).duty.move = .none := (congrArg (fun t => t.duty.move) frame).trans hm
    rw [order, move]
    rfl

theorem resetRelease_exchangeInv (s : State) (h : ExchangeInv s) (i : HeldInv s) : ExchangeInv s.resetRelease := by
  by_cases hp : s.phase = .held
  · obtain ⟨-, -, -, -, -, -, -, move⟩ := i hp
    rw [resetRelease_held s hp]
    exact ((dutyEvent_passes _ _).exch (unitsReleased_exch s h move)).exchangeInv
  · rw [resetRelease_idle s hp]
    exact h

/-! ## Every command -/

/-- Power and RESET_N keep the exchange in order. -/
theorem reset_keepsExchange (c : Instr) (s : State) (hc : isReset c = true) (h : ExchangeInv s) (i : HeldInv s) :
    ∃ t, exec c s = .next t ∧ ExchangeInv t := by
  cases c
  case powerApplication a b => exact ⟨_, rfl, powerOn_exchangeInv a b s⟩
  case supplyLoss =>
    have owes : Owes [] s.powerOff := h.owes.of_perm rfl rfl rfl (List.Perm.refl _)
    exact ⟨_, rfl, owes.exchangeInv fun hp => hp.elim (fun hp => nomatch hp) fun hp => nomatch hp⟩
  case resetNRelease => exact ⟨_, rfl, resetRelease_exchangeInv s h i⟩
  case resetNFall =>
    refine ⟨_, rfl, ?_⟩
    unfold State.resetFall
    split
    case h_3 => exact hold_exchangeInv { s with resetLow := true } (h.owes.of_perm rfl rfl rfl (List.Perm.refl _))
    all_goals exact h
  case coldStartUpCompletion =>
    refine ⟨_, rfl, ?_⟩
    unfold State.startUp
    split
    · next hp =>
      split
      · exact hold_exchangeInv s.delaysBegin (h.owes.of_perm rfl rfl rfl (List.Perm.refl _))
      · obtain ⟨-, -, -, -, -, tied⟩ := id h
        have owes : Owes [] ({ s.delaysBegin with phase := .running }.setFlag .started) :=
          h.owes.of_perm rfl rfl rfl (List.Perm.refl _)
        exact owes.exchangeInv fun _ => tied (Or.inr hp)
    all_goals exact h
  all_goals cases hc

/-- Power and RESET_N enter the hold as R22 leaves the units. -/
theorem reset_keepsHeld (c : Instr) (s : State) (hc : isReset c = true) (h : HeldInv s) :
    ∃ t, exec c s = .next t ∧ HeldInv t := by
  cases c
  case powerApplication a b => exact ⟨_, rfl, fun hp => nomatch hp⟩
  case supplyLoss => exact ⟨_, rfl, fun hp => nomatch hp⟩
  case resetNRelease =>
    refine ⟨_, rfl, ?_⟩
    by_cases hp : s.phase = .held
    · rw [resetRelease_held s hp]
      exact fun hheld => nomatch (released_sameFrame s).phase.symm.trans hheld
    · rw [resetRelease_idle s hp]
      exact fun hheld => absurd hheld hp
  case resetNFall =>
    refine ⟨_, rfl, ?_⟩
    unfold State.resetFall
    split
    case h_1 hp | h_2 hp => exact fun hheld => nomatch hp.symm.trans hheld
    case h_3 => exact hold_heldInv _ rfl
    case h_4 => exact h
  case coldStartUpCompletion =>
    refine ⟨_, rfl, ?_⟩
    unfold State.startUp
    split
    · split
      · next low => exact hold_heldInv s.delaysBegin low
      · exact fun hheld => nomatch hheld
    all_goals exact h
  all_goals cases hc

/-- Every command keeps the exchange in order. -/
theorem exec_keepsExchange (c : Instr) (s : State) (h : ExchangeInv s) (i : HeldInv s) :
    ∃ t, exec c s = .next t ∧ ExchangeInv t := by
  cases hc : isReset c with
  | true => exact reset_keepsExchange c s hc h i
  | false =>
    by_cases running : s.phase = .running
    · obtain ⟨t, exec, passes⟩ := exec_passes c s hc
      exact ⟨t, exec, (passes.exch (h.exch running)).exchangeInv⟩
    · obtain ⟨t, exec, quiet⟩ := exec_quiet_idle c s hc running
      exact ⟨t, exec, quiet.exchangeInv h⟩

/-- Every command keeps what a held part holds. -/
theorem exec_keepsHeld (c : Instr) (s : State) (h : HeldInv s) : ∃ t, exec c s = .next t ∧ HeldInv t := by
  cases hc : isReset c with
  | true => exact reset_keepsHeld c s hc h
  | false =>
    by_cases held : s.phase = .held
    · obtain ⟨t, exec, rests⟩ := exec_rests c s hc held
      exact ⟨t, exec, rests.heldInv h⟩
    · obtain ⟨t, exec, passes⟩ := exec_passes c s hc
      exact ⟨t, exec, fun hheld => absurd (passes.frame.phase.symm.trans hheld) held⟩

end Sys2Proof

open Sys2Proof Sys2Proof.Machine

/-- Settles O2: power and RESET_N one by one, and the frame that every other command keeps. -/
theorem execAnswersNextAndKeepsQueue : Obligations.ExecAnswersNextAndKeepsQueue := by
  intro c s
  cases hc : isReset c with
  | true => exact reset_keepsQueue c s hc
  | false =>
    obtain ⟨t, exec, passes⟩ := exec_passes c s hc
    exact ⟨t, exec, passes.frame.pending, fun _ => ⟨passes.frame.fittedScreens, passes.frame.fittedPumps⟩⟩

/-- Settles O13: a source cycle and every command leave a held part at rest, and the hold is entered at rest. -/
theorem heldInvKept : Obligations.HeldInvKept := by
  intro s t h hs
  unfold step at hs
  split at hs
  · cases hs
    exact (sourceCycle_rests s).heldInv h
  · next c rest _ =>
    obtain ⟨u, exec, inv⟩ := exec_keepsHeld c { s with pending := rest } h
    cases exec.symm.trans hs
    exact inv

/-- Settles O7: each event passes entries between the intake queue, their holders and their completion. -/
theorem exchangeInvKept : Obligations.ExchangeInvKept := by
  intro s t ⟨h, i⟩ hs
  refine ⟨?_, heldInvKept s t i hs⟩
  unfold step at hs
  split at hs
  · cases hs
    exact (sourceCycle_quiet s).exchangeInv h
  · next c rest _ =>
    obtain ⟨u, exec, inv⟩ := exec_keepsExchange c { s with pending := rest } h i
    cases exec.symm.trans hs
    exact inv

end


/-!
# The hand of an entry and INT

Host writes brought to the word they land on, the hand table read cell by cell, INT as a term of the registers.
-/

section
namespace Sys2Proof

open Sys2Proof.Machine

/-! ## Host writes, by the word they land on (R1, R3, R4) -/

theorem entryWordAddr_toNat (e : Entry) (o : Fin 32) : (entryWordAddr e o).toNat = entryAddr e o.1 := by
  have := e.isLt
  have := o.isLt
  show (32 * e.1 + o.1) % 16384 = 32 * e.1 + o.1
  omega

theorem entryOf_entryAddr (e : Entry) (o : Fin 32) : entryOf (entryAddr e o.1) = e := by
  have := e.isLt
  refine Fin.ext ?_
  show (32 * e.1 + o.1) / 32 % 32 = e.1
  omega

theorem offsetOf_entryAddr (e : Entry) (o : Fin 32) : offsetOf (entryAddr e o.1) = o := by
  have := o.isLt
  refine Fin.ext ?_
  show (32 * e.1 + o.1) % 32 = o.1
  omega

/-- The order table ends where the bulk area begins. -/
theorem entryAddr_lt_bulk (e : Entry) (o : Fin 32) : ¬bulkStart ≤ entryAddr e o.1 := by
  have := e.isLt
  have := o.isLt
  unfold bulkStart entryAddr
  omega

/-- Word 0 of an entry is its hand. -/
theorem isHandAddr_entryAddr (e : Entry) (o : Fin 32) : isHandAddr (entryAddr e o.1) = decide (o = 0) := by
  have := e.isLt
  have := o.isLt
  have hand : isHandAddr (entryAddr e o.1) = true ↔ 32 * e.1 + o.1 < 1024 ∧ (32 * e.1 + o.1) % 32 = 0 :=
    Bool.and_eq_true_iff.trans (and_congr decide_eq_true_iff beq_iff_eq)
  have zero : o = 0 ↔ o.1 = 0 := Fin.ext_iff
  rw [Bool.eq_iff_iff, hand, decide_eq_true_iff, zero]
  omega

/-- A host write to word 0 of an entry is a write to its hand. -/
theorem hostWrite_hand (s : State) (e : Entry) (w : Word) (h : s.phase = .running) :
    s.hostWrite (entryWordAddr e 0) w = s.writeHand e w := by
  unfold State.hostWrite
  rw [s.whenRunning_running _ h, entryWordAddr_toNat, if_neg (entryAddr_lt_bulk e 0),
    if_pos (by rw [isHandAddr_entryAddr]; rfl), entryOf_entryAddr]

/-- A host write to another word of an entry. -/
theorem hostWrite_entryWord (s : State) (e : Entry) (o : Fin 32) (w : Word) (h : s.phase = .running) (ho : o ≠ 0) :
    s.hostWrite (entryWordAddr e o) w = s.writeEntryWord e o w := by
  unfold State.hostWrite
  rw [s.whenRunning_running _ h, entryWordAddr_toNat, if_neg (entryAddr_lt_bulk e o), if_neg, entryOf_entryAddr,
    offsetOf_entryAddr]
  simp [isHandAddr_entryAddr, ho]

/-- A host write to the bulk area is stored. -/
theorem hostWrite_bulk (s : State) (a : Addr) (w : Word) (h : s.phase = .running) (ha : 0x400 ≤ a.toNat) :
    s.hostWrite a w = s.writeWord a.toNat w := by
  unfold State.hostWrite
  rw [s.whenRunning_running _ h, if_pos (show bulkStart ≤ a.toNat from ha)]

/-! ## The hand table (R4) -/

/-- A hand's own value names it. -/
theorem ofWord_code (x : Hand) : Hand.ofWord x.code = some x := by cases x <;> rfl

theorem ofWord_large (w : Word) (h : 5 ≤ w.toNat) : Hand.ofWord w = none := by
  unfold Hand.ofWord
  split
  case h_6 => rfl
  all_goals omega

/-- A hand's value written is the table's cell. -/
theorem handCheck_code (held x : Hand) : handCheck held x.code = handTable held x := by
  unfold handCheck
  rw [ofWord_code]

theorem handCheck_large (held : Hand) (w : Word) (h : 5 ≤ w.toNat) : handCheck held w = .illegal := by
  unfold handCheck
  rw [ofWord_large w h]

/-- A write of any value onto a hand is the write of that value by whichever row names it. -/
theorem exec_handIllegal (s : State) (e : Entry) (w : Word) (h : s.phase = .running) :
    exec (.handIllegal e w) s = .next (s.writeHand e w) := congrArg Host.Outcome.next (hostWrite_hand s e w h)

/-- The cells of R4's table that refuse. -/
theorem handIllegal_refused (s : State) (e : Entry) (w : Word) (h : s.phase = .running)
    (hc : handCheck (s.hand e) w = .illegal) : exec (.handIllegal e w) s = .next (faulted s .handIllegal e 0) := by
  rw [exec_handIllegal s e w h]
  unfold State.writeHand
  rw [hc]
  rfl

/-- The cells of R4's table that do nothing. -/
theorem handIllegal_ignored (s : State) (e : Entry) (w : Word) (h : s.phase = .running)
    (hc : handCheck (s.hand e) w = .noEffect ∨ handCheck (s.hand e) w = .discarded) :
    exec (.handIllegal e w) s = .next s := by
  rw [exec_handIllegal s e w h]
  unfold State.writeHand
  rcases hc with hc | hc <;> rw [hc]

/-- What a hand written onto a hand does, in the words of the events it makes. -/
theorem writeHand_code (s : State) (e : Entry) (x : Hand) : s.writeHand e x.code =
    match handTable (s.hand e) x with
    | .noEffect => s
    | .arrival => s.arrive e
    | .withdrawal => s.withdraw e
    | .discarded => s
    | .givenBack => s.setHand e .free
    | .cancelRequest => (s.setHand e .cancel).sendCancel e
    | .illegal => faulted s .handIllegal e 0 := by
  unfold State.writeHand
  rw [handCheck_code]
  cases handTable (s.hand e) x <;> rfl

/-- A cancel request, by the holders it finds (R8). -/
theorem cancelRequest_eq (s : State) (e : Entry) (l : List ScreenNo) (c : Bool)
    (hl : (indices fun n => (s.screen n).holds e) = l) (hc : s.duty.holds e = c) :
    (s.setHand e .cancel).sendCancel e =
      { s with
        hands := upd s.hands e .cancel
        wires := { s.wires with
          washCancels := s.wires.washCancels ++ l.map fun n => (n, e)
          changeCancels := s.wires.changeCancels ++ if c then [e] else [] } } := by
  subst hl hc
  rfl

/-- A hand written onto itself has no effect. -/
theorem handTable_self (x : Hand) : handTable x x = .noEffect := by cases x <;> rfl

/-- The writes that R4's table refuses. -/
theorem handCheck_illegal (x : Hand) (w : Word)
    (h : 5 ≤ w.toNat ∨ (x = .free ∧ (w = 2 ∨ w = 3 ∨ w = 4)) ∨ (x = .posted ∧ (w = 2 ∨ w = 3)) ∨
      (x = .taken ∧ (w = 1 ∨ w = 3)) ∨ (x = .done ∧ (w = 1 ∨ w = 2)) ∨
      (x = .cancel ∧ (w = 1 ∨ w = 2 ∨ w = 3))) :
    handCheck x w = .illegal := by
  rcases h with h | ⟨rfl, h⟩ | ⟨rfl, h⟩ | ⟨rfl, h⟩ | ⟨rfl, h⟩ | ⟨rfl, h⟩
  · exact handCheck_large x w h
  · rcases h with rfl | rfl | rfl <;> rfl
  · rcases h with rfl | rfl <;> rfl
  · rcases h with rfl | rfl <;> rfl
  · rcases h with rfl | rfl <;> rfl
  · rcases h with rfl | rfl | rfl <;> rfl

/-! ## Registers -/

/-- A word with no position set is 0. -/
theorem ne_zero_iff_getLsbD {n : Nat} (x : BitVec n) : x ≠ 0 ↔ ∃ i, i < n ∧ x.getLsbD i = true := by
  constructor
  · intro h
    by_contra none
    refine h (BitVec.eq_of_getLsbD_eq fun i hi => ?_)
    rw [show (0 : BitVec n) = 0#n from rfl, BitVec.getLsbD_zero, Bool.eq_false_iff]
    exact fun hx => none ⟨i, hi, hx⟩
  · rintro ⟨i, -, hi⟩ rfl
    simp at hi

/-- INT is asserted exactly while a flag position stands in SUMMARY and in ENABLE (R17). -/
theorem intAsserted_iff (p : Port) :
    p.intAsserted = true ↔ ∃ i, i < 10 ∧ p.summary.getLsbD i = true ∧ p.enable.getLsbD i = true := by
  unfold Port.intAsserted
  rw [bne_iff_ne, ne_zero_iff_getLsbD]
  simp only [BitVec.getLsbD_and, Bool.and_eq_true]

end Sys2Proof

open Sys2Proof Sys2Proof.Machine

/-- Settles O15: INT as a term of the registers, and the registers at 0 by power and by the hold. -/
theorem intFollowsSummaryAndEnable : Obligations.IntFollowsSummaryAndEnable := by
  refine ⟨fun s h => ?_, fun s a b => ⟨_, rfl, rfl, rfl⟩, fun s h => ?_⟩
  · have line : s.intLine = some s.port.intAsserted := by
      unfold State.intLine
      rw [h]
    rw [line, ← intAsserted_iff, Option.some.injEq, Option.some.injEq]
    exact ⟨Iff.rfl, Bool.not_eq_true _ ▸ Iff.rfl⟩
  · have held : exec .resetNFall s = .next ({ s with resetLow := true } : State).hold := by
      refine congrArg Host.Outcome.next ?_
      unfold State.resetFall
      rw [h]
    exact ⟨_, held, rfl, rfl⟩

/-- Settles O16: each cell read off the hand table. -/
theorem handTableKeepsDiscardsAndRefuses : Obligations.HandTableKeepsDiscardsAndRefuses := by
  intro s e w h
  have refused : _ → exec (.handIllegal e w) s = .next (faulted s .handIllegal e 0) := fun hc =>
    handIllegal_refused s e w h (handCheck_illegal (s.hand e) w hc)
  have discarded : ∀ x : Hand, handTable (s.hand e) x = .discarded → exec (.handIllegal e x.code) s = .next s :=
    fun x hx => handIllegal_ignored s e x.code h (Or.inr ((handCheck_code _ x).trans hx))
  refine ⟨fun hw => refused (Or.inl hw), ?_, fun hw => refused (Or.inr (Or.inl hw)),
    fun hw => refused (Or.inr (Or.inr (Or.inl hw))), ?_, fun hw => refused (Or.inr (Or.inr (Or.inr (Or.inl hw)))), ?_,
    fun hw => refused (Or.inr (Or.inr (Or.inr (Or.inr (Or.inl hw))))), ?_, ?_,
    fun hw => refused (Or.inr (Or.inr (Or.inr (Or.inr (Or.inr hw))))), ?_, ?_, ?_, ?_⟩
  · rintro rfl
    exact handIllegal_ignored s e _ h (Or.inl ((handCheck_code _ _).trans (handTable_self _)))
  · rintro ⟨hs, rfl⟩
    exact ⟨discarded .cancel (by rw [hs]; rfl), discarded .cancel (by rw [hs]; rfl)⟩
  · rintro ⟨hs, rfl⟩
    exact ⟨discarded .free (by rw [hs]; rfl), discarded .free (by rw [hs]; rfl)⟩
  · rintro ⟨hs, rfl⟩
    exact ⟨discarded .cancel (by rw [hs]; rfl), discarded .cancel (by rw [hs]; rfl)⟩
  · rintro ⟨hs, rfl⟩
    exact ⟨discarded .free (by rw [hs]; rfl), discarded .free (by rw [hs]; rfl)⟩
  all_goals
    rintro ⟨-, rfl⟩
    rfl

/-- Settles O17: the table's events, the cancel request by the one holder of its entry. -/
theorem orderEventsAtTheHand : Obligations.OrderEventsAtTheHand := by
  refine ⟨fun s e h => ⟨fun hs => ?_, fun hs => ?_, fun hs => ?_⟩, fun s e h hs inv => ?_⟩
  · refine (exec_handIllegal s e Hand.posted.code h).trans (congrArg Host.Outcome.next ?_)
    rw [writeHand_code, hs]
    rfl
  · refine (exec_handIllegal s e Hand.free.code h).trans (congrArg Host.Outcome.next ?_)
    rw [writeHand_code, hs]
    rfl
  · refine (exec_handIllegal s e Hand.free.code h).trans (congrArg Host.Outcome.next ?_)
    rw [writeHand_code, hs]
    rfl
  · have once := inv.owes.heldOnce
    rw [List.nil_append] at once
    have sent : exec (.cancelRequest e) s = .next ((s.setHand e .cancel).sendCancel e) := by
      refine (exec_handIllegal s e Hand.cancel.code h).trans (congrArg Host.Outcome.next ?_)
      rw [writeHand_code, hs]
      rfl
    constructor
    · rintro n o hn rfl
      have noChange : s.duty.holds o.entry = false := by
        rw [Bool.eq_false_iff, Ne, duty_holds_iff]
        rintro ⟨c, hc, he⟩
        exact changeHolder_unique once hn hc he.symm
      rw [sent, cancelRequest_eq s o.entry [n] false (washHolders_eq once hn) noChange]
      simp
    · rintro o hc rfl
      have change : s.duty.holds o.entry = true := (duty_holds_iff _ _).mpr ⟨o, hc, rfl⟩
      rw [sent, cancelRequest_eq s o.entry [] true (washHolders_of_change once hc) change]
      simp

end


/-!
# Words and registers of the port

What the host stores, what it reads, and what a refused write leaves.
-/

section
namespace Sys2Proof

open Sys2Proof.Machine

/-! ## Words stored by the host (R1, R3) -/

/-- Memory after one word is written (log 10). -/
theorem memory_read_write (m : List (Nat × Word)) (a b : Nat) (w : Word) (h : Memory.wf m = true) :
    Memory.read (Memory.write m a w) b = if b = a then w else Memory.read m b := by
  split
  · next hb => rw [hb, Memory.read_write_same _ _ _ h]
  · next hb => exact Memory.read_write_ne _ _ _ _ hb h

/-- A stored write changes its word alone. -/
theorem writeWord_stored (s : State) (a : Nat) (w : Word) (h : Memory.wf s.mem = true) (ha : a < 16384)
    (hh : isHandAddr a = false) :
    ∃ m, s.writeWord a w = { s with mem := m } ∧ Memory.wf m = true ∧
      ∀ b, Memory.read m b = if b = a then w else Memory.read s.mem b :=
  ⟨_, rfl, Memory.write_wf _ _ _ ha hh h, fun b => memory_read_write s.mem a b w h⟩

/-- The words of an entry are open to the host while its hand is FREE, POSTED or DONE (R3). -/
theorem writeEntryWord_open (s : State) (e : Entry) (o : Fin 32) (w : Word)
    (h : s.hand e = .free ∨ s.hand e = .posted ∨ s.hand e = .done) :
    s.writeEntryWord e o w = s.writeWord (entryAddr e o.1) w := by
  unfold State.writeEntryWord
  rcases h with h | h | h <;> rw [h]

theorem writeEntryWord_locked (s : State) (e : Entry) (o : Fin 32) (w : Word)
    (h : s.hand e = .taken ∨ s.hand e = .cancel) : s.writeEntryWord e o w = faulted s .entryLocked e o := by
  unfold State.writeEntryWord
  rcases h with h | h <;> rw [h] <;> rfl

theorem exec_entryWordWrite (s : State) (e : Entry) (o : Fin 32) (w : Word) (h : s.phase = .running) (ho : o ≠ 0) :
    exec (.entryWordWrite e o w) s = .next (s.writeEntryWord e o w) :=
  congrArg Host.Outcome.next (hostWrite_entryWord s e o w h ho)

theorem exec_bulkWrite (s : State) (a : Addr) (w : Word) (h : s.phase = .running) (ha : 0x400 ≤ a.toNat) :
    exec (.bulkWrite a w) s = .next (s.writeWord a.toNat w) := congrArg Host.Outcome.next (hostWrite_bulk s a w h ha)

theorem entryWordWrite_locked (s : State) (e : Entry) (o : Fin 32) (w : Word) (h : s.phase = .running) (ho : o ≠ 0)
    (hs : s.hand e = .taken ∨ s.hand e = .cancel) :
    exec (.entryWordWrite e o w) s = .next (faulted s .entryLocked e o) := by
  rw [exec_entryWordWrite s e o w h ho, writeEntryWord_locked s e o w hs]

/-! ## Registers written by the host (R2, R16, R17, R19) -/

theorem exec_summaryWrite (s : State) (w : Word) (h : s.phase = .running) :
    exec (.summaryWrite w) s = .next { s with port := { s.port with summary := s.port.summary &&& w.setWidth 10 } } :=
  congrArg Host.Outcome.next (s.whenRunning_running _ h)

theorem exec_enableWrite (s : State) (w : Word) (h : s.phase = .running) :
    exec (.enableWrite w) s = .next { s with port := { s.port with enable := w.setWidth 10 } } :=
  congrArg Host.Outcome.next (s.whenRunning_running _ h)

theorem exec_faultWrite (s : State) (w : Word) (h : s.phase = .running) :
    exec (.faultWrite w) s =
      .next (if w = 0 then { s with port := { s.port with fault := ExchangeFault.clear } } else s) :=
  congrArg Host.Outcome.next (s.whenRunning_running _ h)

theorem exec_readOnly (s : State) (w : Word) (h : s.phase = .running) :
    exec (.readOnly w) s = .next (faulted s .readOnly 0 0) := congrArg Host.Outcome.next (s.whenRunning_running _ h)

/-- A flag stands after a host write to SUMMARY if it stood and its position is written 1 (R16). -/
theorem flag_summaryWrite (p : Port) (w : Word) (f : Flag) :
    (p.summary &&& w.setWidth 10).getLsbD f.position = (p.summary.getLsbD f.position && w.getLsbD f.position) := by
  have position : f.position < 10 := by cases f <;> decide
  rw [BitVec.getLsbD_and, BitVec.getLsbD_setWidth, decide_eq_true position, Bool.true_and]

/-- A refused write sets EXCHANGE and no other flag (R18). -/
theorem faulted_flag (s : State) (k : FaultKind) (e : Entry) (o : Fin 32) :
    (faulted s k e o).flag .exchange = true ∧ ∀ f, f ≠ .exchange → (faulted s k e o).flag f = s.flag f := by
  have faulted : faulted s k e o =
      ({ s with port := { s.port with fault := s.port.fault.record k e o } } : State).setFlag .exchange := rfl
  rw [faulted]
  exact ⟨State.flag_setFlag_same _ _, fun f hf => State.flag_setFlag_ne _ _ _ hf⟩

/-! ## The write cycle (R199) -/

/-- Only its own value names a hand. -/
theorem ofWord_some {w : Word} {x : Hand} (h : Hand.ofWord w = some x) : w = x.code := by
  unfold Hand.ofWord at h
  split at h <;> cases h <;> next hw => exact BitVec.eq_of_toNat_eq hw

theorem busWrite_bulk (a : Addr) (w : Word) (h : 0x400 ≤ a.toNat) : busWrite false a w = .bulkWrite a w :=
  if_pos (show bulkStart ≤ a.toNat from h)

/-- The row of a write to a word of the order table. -/
theorem busWrite_entry (a : Addr) (e : Entry) (o : Fin 32) (w : Word) (h : a.toNat = 32 * e.1 + o.1) :
    busWrite false a w =
      if o = 0 then
        match Hand.ofWord w with
        | some .posted => .arrival e
        | some .free => .withdrawal e
        | some .cancel => .cancelRequest e
        | some .taken => .handIllegal e w
        | some .done => .handIllegal e w
        | none => .handIllegal e w
      else .entryWordWrite e o w := by
  have ha : a.toNat = entryAddr e o.1 := h
  unfold busWrite
  rw [if_neg (by simp), ha, if_neg (entryAddr_lt_bulk e o), isHandAddr_entryAddr, entryOf_entryAddr, offsetOf_entryAddr]
  by_cases ho : o = 0
  · exact (if_pos (decide_eq_true ho)).trans (if_pos ho).symm
  · exact (if_neg (by simpa using ho)).trans (if_neg ho).symm

end Sys2Proof

open Sys2Proof Sys2Proof.Machine

/-- Settles O18: a stored word by the law of memory, a register by its record, a write cycle by its address. -/
theorem hostWritesWordsAndRegisters : Obligations.HostWritesWordsAndRegisters := by
  refine ⟨fun s w h wf => ⟨fun e o ho hs => ?_, fun e o ho hs => entryWordWrite_locked s e o w h ho hs, fun a ha => ?_⟩,
    fun s w h => ⟨exec_summaryWrite s w h, fun t ht f => ?_, exec_enableWrite s w h, ?_, fun hw => ?_, exec_readOnly s w h⟩,
    fun a w => ⟨fun h => ?_, fun h => ?_, fun h => ?_, fun h => ?_, busWrite_bulk a w, fun e o ha => ?_⟩⟩
  · obtain ⟨inside, plain⟩ := entryAddr_ok e o.1 (fun h0 => ho (Fin.ext h0)) o.isLt
    rw [exec_entryWordWrite s e o w h ho, writeEntryWord_open s e o w hs]
    obtain ⟨m, eq, rest⟩ := writeWord_stored s (entryAddr e o.1) w wf inside plain
    exact ⟨m, congrArg Host.Outcome.next eq, rest⟩
  · obtain ⟨inside, plain⟩ := bulkAddr_ok a.toNat ha a.isLt
    rw [exec_bulkWrite s a w h ha]
    obtain ⟨m, eq, rest⟩ := writeWord_stored s a.toNat w wf inside plain
    exact ⟨m, congrArg Host.Outcome.next eq, rest⟩
  · cases (exec_summaryWrite s w h).symm.trans ht
    exact flag_summaryWrite s.port w f
  · rw [exec_faultWrite s 0 h, if_pos rfl]
    rfl
  · rw [exec_faultWrite s w h, if_neg hw]
  · simp [busWrite, h]
  · simp [busWrite, h]
  · simp [busWrite, h]
  · simp [busWrite, h]
  · have row := busWrite_entry a e o w ha
    refine ⟨fun ho => row.trans (if_neg ho), fun ho => ?_⟩
    rw [if_pos ho] at row
    refine ⟨?_, ?_, ?_, fun h0 h1 h4 => ?_, fun s => ?_⟩
    · rintro rfl
      exact row
    · rintro rfl
      exact row
    · rintro rfl
      exact row
    · rw [row]
      split
      case h_1 hw => exact absurd (ofWord_some hw) h1
      case h_2 hw => exact absurd (ofWord_some hw) h0
      case h_3 hw => exact absurd (ofWord_some hw) h4
      all_goals rfl
    · rw [row]
      split
      case h_1 hw | h_2 hw | h_3 hw =>
        rw [ofWord_some hw]
        rfl
      all_goals rfl

/-- Settles O19: the refusals of the hand table, of a locked entry and of PORT_ID, and what FAULT then holds. -/
theorem refusedWritesRecordFirstFault : Obligations.RefusedWritesRecordFirstFault := by
  intro s e o w h
  refine ⟨fun hw => handIllegal_refused s e w h (handCheck_illegal _ w hw),
    fun ho hs => entryWordWrite_locked s e o w h ho hs, exec_readOnly s w h, fun k hk => if_pos hk, fun k hk => if_neg hk,
    fun k => (faulted_flag s k e o).1, fun k => (faulted_flag s k e o).2,
    fun a ha => ⟨_, exec_bulkWrite s a w h ha, rfl⟩, fun hs => handIllegal_ignored s e 0 h (Or.inr ?_),
    fun hs => handIllegal_ignored s e 4 h (Or.inr ?_)⟩
  · rcases hs with hs | hs <;> rw [hs] <;> rfl
  · rcases hs with hs | hs <;> rw [hs] <;> rfl

/-- Settles O14: a read by phase and address, and the registers by their positions. -/
theorem hostReadReturnsWordOrRegister : Obligations.HostReadReturnsWordOrRegister := by
  refine ⟨fun s a => ⟨fun h sel => ?_, fun h sel => ?_, fun h => ?_⟩, fun f => ?_, rfl, fun _ _ => rfl⟩
  · unfold State.hostRead
    rw [h]
  · unfold State.hostRead
    rcases h with h | h <;> rw [h]
  · have read : ∀ sel, s.hostRead sel a = some (if sel then s.register a else s.memWord a.toNat) := by
      intro sel
      unfold State.hostRead
      rw [h]
    have register : s.hostRead true a = some (s.register a) := read true
    have stored : s.hostRead false a = some (s.memWord a.toNat) := read false
    unfold State.register at register
    refine ⟨fun ha => ?_, fun ha => ?_, fun ha => ?_, fun ha => ?_, fun e ha => ?_, fun ha => ?_⟩
    case refine_1 | refine_2 | refine_3 | refine_4 =>
      rw [register, ha]
      rfl
    · rw [stored, show a.toNat = entryAddr e 0 from ha]
      exact congrArg some (s.entryWord_hand e)
    · have plain : isHandAddr a.toNat = false := by
        rw [Bool.eq_false_iff]
        intro hh
        obtain ⟨low, zero⟩ := Bool.and_eq_true_iff.mp hh
        rw [decide_eq_true_iff] at low
        rw [beq_iff_eq] at zero
        omega
      rw [stored, State.memWord, plain]
      rfl
  · have packs : f.kind ≠ .none → f.toWord = Machine.word (16384 * f.kind.code +
        ((if f.more then 8192 else 0) + 32 * f.index.1 + f.offset.1)) := by
      intro hk
      unfold ExchangeFault.toWord packed
      rw [if_neg hk]
      refine congrArg Machine.word ?_
      have more : bit f.more * 2 ^ 13 = if f.more then 8192 else 0 := by cases f.more <;> rfl
      simp only [List.foldl_cons, List.foldl_nil]
      rw [← more]
      omega
    refine ⟨fun hk => if_pos hk, fun hk => ?_, fun hk => ?_, fun hk => ?_⟩
    all_goals
      rw [packs (by rw [hk]; decide), hk]
      rfl

end


/-!
# Common checks and DESCRIBE

Immediate orders in the words of the statements.
-/

section
namespace Sys2Proof

open Sys2Proof.Machine

/-! ## Immediate orders in the words of the statements (R10, R12, R13) -/

/-- An immediate order ends with what its rule gives on the taken state. -/
theorem ends_of_rule {c : Instr} {k : Nat} {kind : OrderKind} {rule : WorkingCopy → State → Reply} {s : State} {e : Entry}
    {rest : List Entry} {t : State} {r : OrderResult} {answers : List Word}
    (hc : ∀ u, exec c u = .next (u.takeImmediate kind rule)) (hk : OrderKind.ofWord (word k) = some kind)
    (h : AtHead s e rest k) (hr : rule (s.copyEntry e) (takenState s e rest) = (t, r, answers)) :
    Ends c s e r answers t := by
  unfold Ends
  rw [hc, takeImmediate_atHead s e rest k kind rule h hk, hr]
  rfl

theorem refused_of_rule {c : Instr} {k : Nat} {kind : OrderKind} {rule : WorkingCopy → State → Reply} {s : State}
    {e : Entry} {rest : List Entry} {r : OrderResult} (hc : ∀ u, exec c u = .next (u.takeImmediate kind rule))
    (hk : OrderKind.ofWord (word k) = some kind) (h : AtHead s e rest k)
    (hr : rule (s.copyEntry e) (takenState s e rest) = refuse r (takenState s e rest)) : Refused c s e rest r :=
  ends_of_rule hc hk h hr

/-! ## Common checks (R12, R200) -/

/-- A kind outside the twenty-six names no order. -/
theorem orderKind_unknown (k : Nat) (hk : k < 65536) (h : k = 0 ∨ 0x1A < k) : OrderKind.ofWord (word k) = none := by
  have number : (word k).toNat = k := by
    show k % 65536 = k
    omega
  unfold OrderKind.ofWord
  rw [number]
  split
  case h_27 => rfl
  all_goals omega

/-- The common check of a screen number, by what it finds wrong. -/
theorem screenArg_above (w : Word) (s : State) (h : 5 < w.toNat) : screenArg w s = .error .badArgument :=
  dif_neg (by omega)

theorem screenArg_unfitted (w : Word) (s : State) (h : w.toNat ≤ 5) (hf : s.fittedScreens ≤ w.toNat) :
    screenArg w s = .error .notFitted := by
  have lt : w.toNat < 6 := by omega
  have none : ¬s.screenFitted ⟨w.toNat, lt⟩ = true := by simpa [State.screenFitted] using hf
  unfold screenArg
  rw [dif_pos lt, if_neg none]

/-- Orders about a screen share its check with WASH. -/
theorem forScreen_of_screenArg (w : Word) (s : State) (k : ScreenNo → Reply) (r : OrderResult)
    (h : screenArg w s = .error r) : forScreen w s k = refuse r s := by
  unfold screenArg at h
  unfold forScreen
  split at h
  · next lt =>
    rw [dif_pos lt]
    split at h
    · cases h
    · next hf =>
      rw [if_neg hf]
      cases h
      rfl
  · next lt =>
    rw [dif_neg lt]
    cases h
    rfl

theorem forPump_above (w : Word) (s : State) (k : PumpNo → Reply) (h : 5 < w.toNat) :
    forPump w s k = refuse .badArgument s := dif_neg (by omega)

theorem forPump_unfitted (w : Word) (s : State) (k : PumpNo → Reply) (h : w.toNat ≤ 5) (hf : s.fittedPumps ≤ w.toNat) :
    forPump w s k = refuse .notFitted s := by
  have lt : w.toNat < 6 := by omega
  have none : ¬s.pumpFitted ⟨w.toNat, lt⟩ = true := by simpa [State.pumpFitted] using hf
  unfold forPump
  rw [dif_pos lt, if_neg none]

/-- An order about a screen is refused as the check of its screen number says. -/
theorem screenOrder_refused {c : Instr} {k : Nat} (hc : (c, k) ∈ screenOrders) (s : State) (e : Entry) (rest : List Entry)
    (r : OrderResult) (h : AtHead s e rest k) (hr : screenArg (argWord s e 3) (takenState s e rest) = .error r) :
    Refused c s e rest r := by
  rw [← copyEntry_argWord s e 3 (by omega) (by omega)] at hr
  have refused := fun f => forScreen_of_screenArg _ _ f r hr
  simp only [screenOrders, List.mem_cons, List.not_mem_nil, or_false, Prod.mk.injEq] at hc
  rcases hc with ⟨rfl, rfl⟩ | ⟨rfl, rfl⟩ | ⟨rfl, rfl⟩ | ⟨rfl, rfl⟩ | ⟨rfl, rfl⟩
  · exact refused_of_rule (fun _ => rfl) rfl h (refused _)
  · have taken := take_atHead s e rest 0x0D (some .wash) washRule h rfl
    refine (congrArg Host.Outcome.next (taken.trans ?_) : exec .wash s = _)
    unfold washRule
    rw [hr]
    rfl
  · exact refused_of_rule (fun _ => rfl) rfl h (refused _)
  · exact refused_of_rule (fun _ => rfl) rfl h (refused _)
  · exact refused_of_rule (fun _ => rfl) rfl h (refused _)

/-- An order about a pump is refused as the check of its pump number says. -/
theorem pumpOrder_refused {c : Instr} {k : Nat} (hc : (c, k) ∈ pumpOrders) (s : State) (e : Entry) (rest : List Entry)
    (r : OrderResult) (h : AtHead s e rest k)
    (hr : ∀ f, forPump (argWord s e 3) (takenState s e rest) f = refuse r (takenState s e rest)) :
    Refused c s e rest r := by
  rw [← copyEntry_argWord s e 3 (by omega) (by omega)] at hr
  simp only [pumpOrders, List.mem_cons, List.not_mem_nil, or_false, Prod.mk.injEq] at hc
  rcases hc with ⟨rfl, rfl⟩ | ⟨rfl, rfl⟩ | ⟨rfl, rfl⟩ | ⟨rfl, rfl⟩ <;>
    exact refused_of_rule (fun _ => rfl) rfl h (hr _)

/-- An order about one of sixteen records is refused above the fifteenth. -/
theorem sixteenOrder_refused {c : Instr} {k : Nat} (hc : (c, k) ∈ sixteenOrders) (s : State) (e : Entry)
    (rest : List Entry) (h : AtHead s e rest k) (ha : 15 < argNum s e 3) : Refused c s e rest .badArgument := by
  simp only [sixteenOrders, List.mem_cons, List.not_mem_nil, or_false, Prod.mk.injEq] at hc
  rcases hc with ⟨rfl, rfl⟩ | ⟨rfl, rfl⟩ | ⟨rfl, rfl⟩ | ⟨rfl, rfl⟩ <;>
    exact refused_of_rule (fun _ => rfl) rfl h (forSixteen_above s e rest _ ha)

/-! ## The size of a snapshot (R26) -/

/-- A sum over a selection, place by place. -/
theorem sum_selected {α : Type} (p : α → Bool) (f : α → Nat) (l : List α) :
    ((l.filter p).map f).sum = (l.map fun x => if p x then f x else 0).sum := by
  induction l with
  | nil => rfl
  | cons x l ih =>
    rw [List.filter_cons, List.map_cons, List.sum_cons, ← ih]
    cases p x <;> simp

/-- The size that the model gives a snapshot is that of R26. -/
theorem snapshotSize_eq (s : State) (mask : Word) : s.snapshotSize mask = snapshotWordCount s mask := by
  unfold State.snapshotSize snapshotWordCount selected
  rw [sum_selected]
  simp only [Nat.add_assoc]
  rfl

/-- The answer of DESCRIBE's leaf 4, by the live edition's ends (R25). -/
theorem tideDescribe_eq (t : Tide) (a b : Option Nat) (ha : t.liveEdition.head?.map (fun e => e.time) = a)
    (hb : t.liveEdition.getLast?.map (fun e => e.time) = b) :
    t.describe = [word t.live.code, word t.editionA.length, word t.editionB.length] ++ instantWords a ++ instantWords b := by
  subst ha hb
  rfl

end Sys2Proof

open Sys2Proof Sys2Proof.Machine

/-- Settles O21: the common checks stand in front of every rule, the kind's check in the take of its own. -/
theorem commonChecksRefuse : Obligations.CommonChecksRefuse := by
  intro s e rest
  refine ⟨fun k hk hu h => ?_, fun c k hc h => ⟨fun ha => ?_, fun ha hf => ?_⟩,
    fun c k hc h => ⟨fun ha => ?_, fun ha hf => ?_⟩,
    fun c k hc h ha => sixteenOrder_refused hc s e rest h ha⟩
  · exact (congrArg Host.Outcome.next (take_atHead s e rest k none _ h (orderKind_unknown k hk hu)) :
      exec .unknownKind s = _)
  · exact screenOrder_refused hc s e rest _ h (screenArg_above _ _ ha)
  · exact screenOrder_refused hc s e rest _ h (screenArg_unfitted _ _ ha hf)
  · exact pumpOrder_refused hc s e rest _ h fun f => forPump_above _ _ f ha
  · exact pumpOrder_refused hc s e rest _ h fun f => forPump_unfitted _ _ f ha hf

/-- Settles O22: the answer leaf by leaf. -/
theorem describeAnswersByLeaf : Obligations.DescribeAnswersByLeaf := by
  intro s e rest h
  have answers : ∀ l, s.describe (argWord s e 3) (argWord s e 4) = l → Ends .describe s e .ok l (takenState s e rest) := by
    rintro l rfl
    refine ends_of_rule (fun _ => rfl) rfl h ?_
    unfold describeRule
    rw [copyEntry_argWord s e 3 (by omega) (by omega), copyEntry_argWord s e 4 (by omega) (by omega)]
    rfl
  have leaf : ∀ n, argNum s e 3 = n → (argWord s e 3).toNat = n := fun _ hn => hn
  have sub : argNum s e 4 = 0 → argWord s e 4 = 0 := fun hn => BitVec.eq_of_toNat_eq hn
  unfold State.describe at answers
  refine ⟨fun h3 h4 => answers _ ?_, fun h3 h4 => answers _ ?_, fun h3 h4 => answers _ ?_, fun h3 h4 => answers _ ?_,
    fun h3 h4 => answers _ ?_, fun h3 h4 he => answers _ ?_, fun a b h3 h4 ha hb => answers _ ?_,
    fun h3 h4 => answers _ ?_, fun h3 => answers _ ?_⟩
  · rw [leaf 0 h3]
    exact if_pos (sub h4)
  · rw [leaf 1 h3]
    exact if_pos (sub h4)
  · rw [leaf 2 h3]
    exact if_pos (sub h4)
  · rw [leaf 3 h3, ← snapshotSize_eq]
    exact if_pos (decide_eq_true h4)
  · rw [leaf 3 h3]
    exact if_neg fun hm => absurd (of_decide_eq_true hm) (Nat.not_lt.mpr h4)
  · rw [leaf 4 h3]
    refine (if_pos (sub h4)).trans ?_
    rw [tideDescribe_eq _ none none (by rw [he]; rfl) (by rw [he]; rfl)]
    rfl
  · rw [leaf 4 h3]
    refine (if_pos (sub h4)).trans ?_
    rw [tideDescribe_eq _ (some a.time) (some b.time) (by rw [ha]; rfl) (by rw [hb]; rfl)]
    rfl
  · have nonzero : argWord s e 4 ≠ 0 := fun hw => h4 (congrArg BitVec.toNat hw)
    simp only [List.mem_cons, List.not_mem_nil, or_false] at h3
    rcases h3 with h3 | h3 | h3 | h3
    · rw [leaf 0 h3]
      exact if_neg nonzero
    · rw [leaf 1 h3]
      exact if_neg nonzero
    · rw [leaf 2 h3]
      exact if_neg nonzero
    · rw [leaf 4 h3]
      exact if_neg nonzero
  · have above : 4 < (argWord s e 3).toNat := h3
    split
    case h_6 => rfl
    all_goals omega

end


/-!
# SNAPSHOT

The words of a snapshot as laid out, and the order's checks.
-/

section
namespace Sys2Proof

open Sys2Proof.Machine

/-! ## The words of a snapshot (R26, 11 section 11.5) -/

/-- Words over a selection, place by place. -/
theorem flatMap_selected {α β : Type} (p : α → Bool) (f : α → List β) (l : List α) :
    (l.filter p).flatMap f = l.flatMap fun x => if p x then f x else [] := by
  induction l with
  | nil => rfl
  | cons x l ih =>
    rw [List.filter_cons, List.flatMap_cons, ← ih]
    cases p x <;> simp

/-- The header, word by word. -/
theorem headerBlock_eq (s : State) (mask : Word) :
    s.headerBlock mask =
      [mask, word (snapshotWordCount s mask), word s.time.clock.minuteCount, word (s.time.clock.minuteCount / 65536),
        word (bit s.time.clock.suspect + 2 * s.time.base.code), word (s.fittedScreens + 256 * s.fittedPumps),
        word (32768 * s.tide.live.code + s.tide.liveEdition.length), 1] := by
  unfold State.headerBlock
  rw [snapshotSize_eq]
  simp [packed, instantWords, mul_comm, stepping, word]

/-- A section, in the words of the statements. -/
def sectionShown (s : State) (free : Nat → Word) : Section → List Word
  | .levels => ((List.finRange 16).flatMap fun i => channelShown (sel s.level.channels i)) ++ seaShown s.level free
  | .tide => tideShown s.tide
  | .alarms => (List.finRange 16).flatMap fun i => alarmShown s.alarm (sel s.alarm.records i)
  | .screens =>
    washShown s ++
      ((List.finRange 6).filter fun n => n.1 < s.fittedScreens).flatMap fun n => screenShown n (s.screen n) free
  | .pumps =>
    dutyShown s.duty free ++
      ((List.finRange 6).filter fun p => p.1 < s.fittedPumps).flatMap fun p => pumpShown p (s.pump p)
  | .timers => (List.finRange 16).flatMap fun t => timerShown t (s.timer t) free

theorem sectionWords_eq (s : State) (x : Section) : s.sectionWords x = sectionShown s (drawn s) x := by
  have fitted : s.fittedScreenList = (List.finRange 6).filter fun n => decide (n.1 < s.fittedScreens) := rfl
  have fittedPumps : s.fittedPumpList = (List.finRange 6).filter fun p => decide (p.1 < s.fittedPumps) := rfl
  unfold State.sectionWords sectionShown
  cases x
  case levels => simp only [channelShown_eq, seaShown_eq]
  case tide => exact tideShown_eq s.tide
  case alarms => simp only [alarmShown_eq]
  case screens =>
    simp only [washShown_eq, fitted]
    exact congrArg (fun f => washShown s ++ ((List.finRange 6).filter fun n => decide (n.1 < s.fittedScreens)).flatMap f)
      (funext (screenShown_eq s))
  case pumps =>
    simp only [dutyShown_eq, fittedPumps]
    exact congrArg
      (fun f => dutyShown s.duty (drawn s) ++ ((List.finRange 6).filter fun p => decide (p.1 < s.fittedPumps)).flatMap f)
      (funext (pumpShown_eq s))
  case timers => exact congrArg (fun f => (List.finRange 16).flatMap f) (funext (timerShown_eq s))

/-- Every word of a snapshot is laid out as 11 section 11.5 has it, with the free values drawn at its take. -/
theorem snapshotWords_eq (s : State) (mask : Word) : s.snapshotWords mask = snapshotLayout s mask (drawn s) := by
  unfold State.snapshotWords snapshotLayout selected
  rw [flatMap_selected, headerBlock_eq, show s.sectionWords = sectionShown s (drawn s) from funext (sectionWords_eq s)]
  have mark : markShown s.time.clock.suspect 1 = bit s.time.clock.suspect := by rw [markShown_eq, Nat.mul_one]
  dsimp only
  rw [mark]
  simp only [List.append_assoc, allSections, List.flatMap_cons, List.flatMap_nil, List.append_nil]
  rfl

/-! ## SNAPSHOT, check by check (R27) -/

section snapshotRule

variable (o : WorkingCopy) (s : State)

theorem snapshotRule_badMask (h : 64 ≤ (o.arg 3).toNat) : snapshotRule o s = refuse .badArgument s := by
  have bad : maskOk (o.arg 3) = false := decide_eq_false (Nat.not_lt.mpr h)
  unfold snapshotRule
  rw [bad]
  rfl

/-- The checks after that of the mask. -/
theorem snapshotRule_goodMask (h : (o.arg 3).toNat < 64) :
    snapshotRule o s =
      if o.num 4 < bulkStart ∨ memEnd < o.num 4 + o.num 5 then refuse .badArgument s
      else if o.num 5 < snapshotWordCount s (o.arg 3) then (s, .roomShort, [word (snapshotWordCount s (o.arg 3))])
      else
        reply [word (snapshotWordCount s (o.arg 3))]
          { s.writeWords (o.num 4) (s.snapshotWords (o.arg 3)) with draws := s.draws + snapshotDraws } := by
  have good : maskOk (o.arg 3) = true := decide_eq_true h
  unfold snapshotRule
  rw [good, snapshotSize_eq]
  rfl

end snapshotRule

/-- The words of a snapshot, written from a bulk offset on. -/
theorem snapshot_written (s : State) (a size : Nat) (mask : Word) (hm : Memory.wf s.mem = true) (ha : bulkStart ≤ a)
    (hs : a + size ≤ memEnd) (hsize : snapshotWordCount s mask ≤ size) (hf : s.fittedScreens ≤ 6)
    (hp : s.fittedPumps ≤ 6) :
    ∃ m, s.writeWords a (s.snapshotWords mask) = { s with mem := m } ∧ Memory.wf m = true ∧
      ∀ b, Memory.read m b =
        if a ≤ b ∧ b < a + snapshotWordCount s mask then (s.snapshotWords mask).getD (b - a) 0 else Memory.read s.mem b := by
  have length : (s.snapshotWords mask).length = snapshotWordCount s mask := by
    rw [(snapshotWords_length s mask).2 hf hp, snapshotSize_eq]
  have inside := snapshot_ok s a size mask ha hs (by rw [snapshotSize_eq]; exact hsize)
  refine ⟨_, State.writeWords_frame _ _ _, State.writeWords_wf _ _ _ hm inside, fun b => ?_⟩
  rw [State.writeWords_read _ _ _ _ hm inside, length]

end Sys2Proof

open Sys2Proof Sys2Proof.Machine

/-- Settles O23: SNAPSHOT's checks in order, the words it writes, and their layout block by block. -/
theorem snapshotWritesStateAtTake : Obligations.SnapshotWritesStateAtTake := by
  refine ⟨fun s e rest h wf hscreens hpumps => ?_, fun s mask hmask hscreens hpumps => ?_, ?_⟩
  · have mask := copyEntry_argWord s e 3 (by omega) (by omega)
    have offset := copyEntry_argNum s e 4 (by omega) (by omega)
    have room := copyEntry_argNum s e 5 (by omega) (by omega)
    have rule := fun hm => snapshotRule_goodMask (s.copyEntry e) (takenState s e rest) hm
    rw [mask, offset, room] at rule
    have ends : ∀ {t r answers}, snapshotRule (s.copyEntry e) (takenState s e rest) = (t, r, answers) →
        Ends .snapshot s e r answers t := fun hr => ends_of_rule (fun _ => rfl) rfl h hr
    refine ⟨fun hm => ends (snapshotRule_badMask _ _ (mask ▸ hm)), fun hm ha => ends ((rule hm).trans (if_pos ha)),
      fun hm ha hs hr => ends ((rule hm).trans ?_), fun hm ha hs hr => ?_⟩
    · exact (if_neg (not_or.mpr ⟨Nat.not_lt.mpr ha, Nat.not_lt.mpr hs⟩)).trans (if_pos hr)
    · obtain ⟨m, written, rest⟩ :=
        snapshot_written (takenState s e rest) (argNum s e 4) (argNum s e 5) (argWord s e 3) wf ha hs hr hscreens hpumps
      refine ⟨m, ends ((rule hm).trans ?_), rest⟩
      refine (if_neg (not_or.mpr ⟨Nat.not_lt.mpr ha, Nat.not_lt.mpr hs⟩)).trans ((if_neg (Nat.not_lt.mpr hr)).trans ?_)
      rw [written]
      rfl
  · have header : ∀ i, i < 8 → (s.snapshotWords mask).getD i 0 = (s.headerBlock mask).getD i 0 := fun i hi =>
      List.getD_append _ _ _ _ (by rw [headerBlock_length]; exact hi)
    rw [headerBlock_eq] at header
    refine ⟨?_, header 0 (by omega), header 1 (by omega), header 2 (by omega), header 3 (by omega), header 4 (by omega),
      header 5 (by omega), header 6 (by omega), header 7 (by omega), drawn s, snapshotWords_eq s mask⟩
    rw [(snapshotWords_length s mask).2 hscreens hpumps, snapshotSize_eq]
  · refine ⟨rfl, rfl, rfl, rfl, rfl, fun _ => rfl, rfl, rfl, rfl, rfl, rfl, rfl, fun w d h => ?_, rfl, rfl, rfl, rfl,
      fun i d t o => ?_, rfl, rfl, rfl, rfl⟩
    · simp [ActionSet.code, markShown_eq, mul_comm]
    · simp [CauseSet.code, markShown_eq, mul_comm]

end


/-!
# Power, the fall of RESET_N, the cold records

The ends of the cold start-up, the hold, and the reset state record by record.
-/

section
namespace Sys2Proof

open Sys2Proof.Machine

/-! ## Straps (R21) -/

/-- The fitted count of a strap, in the words of R21. -/
theorem fittedCount_eq (a : BitVec 3) : fittedCount a = if a = 0 then 1 else if a = 7 then 6 else a.toNat := by
  have lt := a.isLt
  have zero : a = 0 ↔ a.toNat = 0 := ⟨fun h => congrArg BitVec.toNat h, fun h => BitVec.eq_of_toNat_eq h⟩
  have seven : a = 7 ↔ a.toNat = 7 := ⟨fun h => congrArg BitVec.toNat h, fun h => BitVec.eq_of_toNat_eq h⟩
  unfold fittedCount
  simp only [zero, seven]
  split
  · rfl
  · split <;> split <;> omega

/-! ## The hold (R22) -/

/-- A running part that RESET_N stops is held. -/
theorem exec_resetNFall_running (s : State) (h : s.phase = .running) :
    exec .resetNFall s = .next ({ s with resetLow := true } : State).hold := by
  refine congrArg Host.Outcome.next ?_
  unfold State.resetFall
  rw [h]

/-- The restart delays that begin with the end of the cold start-up begin again with the hold. -/
theorem delaysBegin_hold (s : State) : s.delaysBegin.hold = s.hold := by
  have pump : ∀ p, s.delaysBegin.pump p =
      if s.pumpFitted p then { s.pump p with delayRemaining := (s.pump p).restartDelay, delayDue := false }
      else s.pump p := fun p => sel_tab _ p
  have records : s.delaysBegin.pumpsFall = s.pumpsFall := by
    refine congrArg (fun r => ({ records := r, lastW := { s.pumps.lastW with quality := .filling } } : PumpUnit)) ?_
    refine table_ext _ _ fun p => ?_
    rw [sel_tab, sel_tab, pump]
    show (if s.pumpFitted p then _ else _) = _
    split <;> rfl
  exact congrArg (fun u => { s.hold with pumps := u }) records

/-- With RESET_N low the cold start-up ends in the hold. -/
theorem exec_coldStartUpCompletion_low (s : State) (h : s.phase = .coldStart) (hr : s.resetLow = true) :
    exec .coldStartUpCompletion s = .next s.hold := by
  refine congrArg Host.Outcome.next ?_
  unfold State.startUp
  rw [h]
  exact (if_pos hr).trans (delaysBegin_hold s)

/-- With RESET_N high the cold start-up ends in the running part. -/
theorem exec_coldStartUpCompletion_high (s : State) (h : s.phase = .coldStart) (hr : s.resetLow = false) :
    exec .coldStartUpCompletion s = .next ({ s.delaysBegin with phase := .running }.setFlag .started) := by
  refine congrArg Host.Outcome.next ?_
  unfold State.startUp
  rw [h]
  exact if_neg (by rw [hr]; simp)

/-! ## The part right after reset -/

theorem reset_screen (n : ScreenNo) : State.reset.screen n = Screen.cold := sel_tab _ n

theorem reset_pump (p : PumpNo) : State.reset.pump p = Pump.cold := sel_tab _ p

theorem reset_timer (t : TimerNo) : State.reset.timer t =
    { owner := .none, unit := .second, preset := 1, count := 1, running := false, expiries := 0 } := sel_tab _ t

theorem reset_channel (n : Fin 16) : sel State.reset.level.channels n =
    { rawLow := 0, rawHigh := 0, engLow := 0, engHigh := 0, faultLow := 0, faultHigh := 0, stuckWindow := 0
      quality := .unconfigured, filter := [], value := 0, lastRaw := 0, runLength := 0 } := sel_tab _ n

theorem reset_alarm (i : Fin 16) : sel State.reset.alarm.records i = Alarm.cold := sel_tab _ i

theorem reset_hand (e : Entry) : State.reset.hand e = .free := sel_tab _ e

/-- Every word of exchange memory is 0 right after reset (R20). -/
theorem reset_memWord (a : Nat) : State.reset.memWord a = 0 := by
  unfold State.memWord
  split
  · rw [reset_hand]
    rfl
  · rfl

/-- The alarm unit at cold reset has no derate floor and no hold state (R103). -/
theorem reset_floor : State.reset.alarm.floor = none ∧ State.reset.alarm.holdState = false := by
  unfold AlarmUnit.floor AlarmUnit.holdState
  simp only [reset_alarm]
  exact ⟨rfl, rfl⟩

end Sys2Proof

open Sys2Proof Sys2Proof.Machine

/-- Settles O24: power, the two ends of the cold start-up, and a silent part. -/
theorem powerCommands : Obligations.PowerCommands := by
  refine ⟨fun s a b => ?_, fun s h hr => exec_coldStartUpCompletion_high s h hr, fun s h hr => ?_, fun s => ?_⟩
  · dsimp only
    rw [← fittedCount_eq, ← fittedCount_eq]
    rfl
  · have low := exec_coldStartUpCompletion_low s h hr
    refine ⟨?_, _, low, rfl, rfl, rfl, rfl, rfl⟩
    rw [low, exec_resetNFall_running _ rfl, ← hr]
    rfl
  · exact ⟨_, rfl, rfl, fun _ _ => rfl, rfl, fun _ => ⟨rfl, rfl, rfl⟩, fun _ => rfl⟩

/-- Settles O25: the hold record by record. -/
theorem resetFallHoldsPart : Obligations.ResetFallHoldsPart := by
  refine ⟨fun s h => ⟨_, exec_resetNFall_running s h, rfl, rfl, rfl, rfl, rfl, rfl, rfl, rfl, rfl, rfl, rfl, rfl, rfl, rfl,
    rfl, rfl, rfl, fun i => sel_tab _ i, fun n hq => ?_, fun n hq => ?_, rfl, rfl, rfl, rfl, rfl, rfl, rfl, rfl⟩,
    fun s h => ⟨_, exec_resetNFall_running s h, fun n hf => ?_, fun n hf => ?_, rfl, fun p hf => ?_, fun p hf => ?_, rfl,
    fun hr => ?_, fun r hr => ?_, rfl, rfl, rfl, rfl, rfl, rfl, rfl, rfl, rfl, rfl, rfl, rfl, fun p => sel_tab _ p, rfl⟩⟩
  · refine (sel_tab _ n).trans ?_
    unfold Channel.fall
    rw [if_pos hq, ← hq]
  · refine (sel_tab _ n).trans ?_
    unfold Channel.fall
    rw [if_neg hq]
  · exact (hold_screen _ n).trans (if_neg (fun hn => Bool.false_ne_true (hf.symm.trans hn)))
  · have screen : ({ s with resetLow := true } : State).hold.screen n = (s.screen n).fall :=
      (hold_screen _ n).trans (if_pos hf)
    refine ⟨screen, ?_, ?_, ?_⟩
    · unfold State.driveLine
      rw [screen]
      exact Bool.and_false _
    · unfold State.fastLine
      rw [screen]
      exact Bool.and_false _
    · unfold State.sprayLine
      rw [screen]
      exact Bool.and_false _
  · exact (hold_pump _ p).trans (if_neg (fun hn => Bool.false_ne_true (hf.symm.trans hn)))
  · have pump : ({ s with resetLow := true } : State).hold.pump p = (s.pump p).fall :=
      (hold_pump _ p).trans (if_pos hf)
    refine ⟨pump, ?_⟩
    unfold State.runLine
    rw [pump]
    exact Bool.and_false _
  · show s.duty.restored.roster = s.duty.roster
    unfold Duty.restored
    rw [hr]
  · show s.duty.restored.roster = r
    unfold Duty.restored
    rw [hr]

/-- Settles O5: every record of the reset state is the cold one. -/
theorem resetHoldsColdValues : Obligations.ResetHoldsColdValues := by
  obtain ⟨floor, hold⟩ := reset_floor
  refine ⟨rfl, rfl, rfl, rfl, rfl, reset_memWord, reset_hand, rfl, rfl, rfl, rfl, rfl, reset_timer, rfl, reset_channel, rfl,
    reset_alarm, rfl, rfl, floor, hold, reset_screen, fun n => ⟨?_, ?_, ?_⟩, ?_, rfl, reset_pump, fun p => ?_, rfl, rfl,
    fun p => sel_tab _ p⟩
  · unfold State.driveLine
    rw [reset_screen]
    exact Bool.and_false _
  · unfold State.fastLine
    rw [reset_screen]
    exact Bool.and_false _
  · unfold State.sprayLine
    rw [reset_screen]
    exact Bool.and_false _
  · unfold State.chokeState
    simp only [reset_screen]
    rfl
  · unfold State.runLine
    rw [reset_pump]
    exact Bool.and_false _

/-- Settles O6: the invariants of the cold records. -/
theorem resetHasInvariants : Obligations.ResetHasInvariants := by
  have wash : WashInv State.reset := by
    refine ⟨fun n => ?_, List.nodup_nil, rfl, ?_, Nat.zero_le _, fun n _ => ?_, fun n hn => ?_, fun n _ => reset_screen n⟩
    · rw [reset_screen]
      exact ⟨fun hn => (nomatch hn), fun hn => (nomatch hn)⟩
    · simp only [reset_screen]
      rfl
    · rw [reset_screen]
      rfl
    · rw [reset_screen] at hn
      cases hn
  have availability : AvailabilityInv State.reset := by
    refine ⟨fun p => ?_, fun _ hq => (nomatch hq), fun p _ => reset_pump p⟩
    unfold State.canStart
    rw [reset_pump]
    unfold Pump.canStart
    exact (Bool.and_false _).symm
  have roster : RosterInv State.reset := by
    have natural : State.reset.duty.roster = indices State.reset.pumpFitted := rfl
    refine ⟨⟨?_, fun p => ?_⟩, fun r hr => (nomatch hr), rfl, rfl⟩
    · rw [natural]
      exact (List.nodup_finRange 6).filter _
    · rw [natural]
      exact mem_indices _ p
  have timers : TimerInv State.reset := by
    refine ⟨fun t => ?_, fun t u _ _ => Or.inl ?_⟩
    · rw [reset_timer]
      decide
    · rw [reset_timer]
  have alarms : AlarmInv State.reset := by
    intro i
    rw [reset_alarm]
    exact ⟨fun _ => ⟨rfl, rfl, rfl, rfl⟩, fun _ => Or.inl rfl⟩
  have level : LevelInv State.reset := by
    refine ⟨fun n => ?_, Nat.zero_le _⟩
    rw [reset_channel]
    rfl
  exact ⟨powerOn_exchangeInv 6 6 State.reset, wash, availability, roster, ⟨rfl, rfl, rfl⟩, timers, alarms, level,
    fun h => (nomatch h), Or.inl rfl, editionOk_nil, editionOk_nil⟩

end


/-!
# A second step

The clock's carries layer by layer, and what a second sends.
-/

section
namespace Sys2Proof

open Sys2Proof.Machine

/-! ## The calendar's carries (R31) -/

theorem monthLength_eq (year month : Nat) : monthLength year month = monthDays year month := by
  simp [monthLength, monthDays]

/-- The ranges of a clock's fields (R31). -/
structure InRange (c : Clock) : Prop where
  year : c.year ≤ 2099
  month : c.month ≤ 12
  day : c.day ≤ monthDays c.year c.month
  weekday : c.weekday < 7
  hour : c.hour ≤ 23
  minute : c.minute ≤ 59
  second : c.second ≤ 59

theorem ClockInv.inRange {s : State} (h : ClockInv s) : InRange s.time.clock := by
  obtain ⟨args, weekday, -⟩ := h
  simp only [timeArgsOk, Bool.and_eq_true, decide_eq_true_eq, monthLength_eq] at args
  obtain ⟨⟨⟨⟨⟨⟨⟨⟨-, year⟩, -⟩, month⟩, -⟩, day⟩, hour⟩, minute⟩, second⟩ := args
  refine ⟨year, month, day, ?_, hour, minute, second⟩
  rw [weekday]
  exact Nat.mod_lt _ (by omega)

theorem monthStep_eq (c : Clock) (h : c.month ≤ 12) :
    c.monthStep = { c with
      month := if c.month = 12 then 1 else c.month + 1, year := if c.month = 12 then c.year + 1 else c.year } := by
  unfold Clock.monthStep
  by_cases last : c.month = 12
  · simp [last]
  · simp [last, show c.month + 1 < 13 by omega]

theorem dayStep_eq (c : Clock) (h : InRange c) :
    c.dayStep = { c with
      weekday := (c.weekday + 1) % 7
      day := if c.day = monthDays c.year c.month then 1 else c.day + 1
      month := if c.day = monthDays c.year c.month then (if c.month = 12 then 1 else c.month + 1) else c.month
      year := if c.day = monthDays c.year c.month ∧ c.month = 12 then c.year + 1 else c.year } := by
  have range := h.weekday
  have weekday : (if c.weekday = 6 then 0 else c.weekday + 1) = (c.weekday + 1) % 7 := by split <;> omega
  have carry : c.day + 1 ≤ monthDays c.year c.month ↔ ¬c.day = monthDays c.year c.month := by
    have := h.day
    omega
  unfold Clock.dayStep
  simp only [weekday, monthLength_eq, carry, ite_not]
  by_cases last : c.day = monthDays c.year c.month
  · rw [if_pos last, monthStep_eq { c with weekday := (c.weekday + 1) % 7, day := 1 } h.month]
    simp [last]
  · simp [last]

/-- The hour's carry, through to the year. -/
theorem hourStep_eq (c : Clock) (h : InRange c) :
    let lastDay := c.hour = 23
    let lastMonth := lastDay ∧ c.day = monthDays c.year c.month
    let lastYear := lastMonth ∧ c.month = 12
    c.hourStep = { c with
      year := if lastYear then c.year + 1 else c.year
      month := if lastYear then 1 else if lastMonth then c.month + 1 else c.month
      day := if lastMonth then 1 else if lastDay then c.day + 1 else c.day
      weekday := if lastDay then (c.weekday + 1) % 7 else c.weekday
      hour := if lastDay then 0 else c.hour + 1 } := by
  have carry : c.hour + 1 < 24 ↔ ¬c.hour = 23 := by
    have := h.hour
    omega
  dsimp only
  unfold Clock.hourStep
  simp only [carry, ite_not]
  by_cases lastDay : c.hour = 23
  · rw [if_pos lastDay, dayStep_eq { c with hour := 0 } { h with hour := Nat.zero_le _ }]
    dsimp only
    generalize monthDays c.year c.month = days
    by_cases lastMonth : c.day = days <;> by_cases lastYear : c.month = 12 <;>
      simp [lastDay, lastMonth, lastYear]
  · simp [lastDay]

/-- The clock after a second step, by the carries it makes (R31, R33). -/
theorem clock_step_eq (c : Clock) (h : InRange c) :
    let lastMinute := c.second = 59
    let lastHour := lastMinute ∧ c.minute = 59
    let lastDay := lastHour ∧ c.hour = 23
    let lastMonth := lastDay ∧ c.day = monthDays c.year c.month
    let lastYear := lastMonth ∧ c.month = 12
    let centuryEnd := lastYear ∧ c.year = 2099
    (c.minuteDue = true ↔ lastMinute) ∧ (c.atCenturyEnd = true ↔ centuryEnd) ∧
    c.step =
      if centuryEnd then
        { year := 2000, month := 1, day := 1, weekday := 5, hour := 0, minute := 0, second := 0, minuteCount := 0
          suspect := true }
      else
        { year := if lastYear then c.year + 1 else c.year
          month := if lastYear then 1 else if lastMonth then c.month + 1 else c.month
          day := if lastMonth then 1 else if lastDay then c.day + 1 else c.day
          weekday := if lastDay then (c.weekday + 1) % 7 else c.weekday
          hour := if lastDay then 0 else if lastHour then c.hour + 1 else c.hour
          minute := if lastHour then 0 else if lastMinute then c.minute + 1 else c.minute
          second := if lastMinute then 0 else c.second + 1
          minuteCount := if lastMinute then c.minuteCount + 1 else c.minuteCount
          suspect := c.suspect } := by
  intro lastMinute lastHour lastDay lastMonth lastYear centuryEnd
  have due : c.minuteDue = true ↔ lastMinute := by
    have := h.second
    simp only [Clock.minuteDue, decide_eq_true_eq]
    show 60 ≤ c.second + 1 ↔ c.second = 59
    omega
  have century : c.atCenturyEnd = true ↔ centuryEnd := by
    have december : c.month = 12 → monthDays c.year c.month = 31 := fun hm => by
      rw [hm]
      rfl
    simp only [Clock.atCenturyEnd, Bool.and_eq_true, beq_iff_eq]
    constructor
    · rintro ⟨⟨⟨⟨⟨hy, hm⟩, hd⟩, hh⟩, hmin⟩, hs⟩
      exact ⟨⟨⟨⟨⟨hs, hmin⟩, hh⟩, hd.trans (december hm).symm⟩, hm⟩, hy⟩
    · rintro ⟨⟨⟨⟨⟨hs, hmin⟩, hh⟩, hd⟩, hm⟩, hy⟩
      exact ⟨⟨⟨⟨⟨hy, hm⟩, hd.trans (december hm)⟩, hh⟩, hmin⟩, hs⟩
  refine ⟨due, century, ?_⟩
  unfold Clock.step
  refine (if_congr century rfl rfl).trans (if_congr Iff.rfl rfl ?_)
  refine (if_congr due rfl rfl).trans ?_
  have carry : c.minute + 1 < 60 ↔ ¬c.minute = 59 := by
    have := h.minute
    omega
  by_cases hs : c.second = 59
  · refine (if_pos hs).trans ?_
    unfold Clock.minuteStep
    simp only [carry, ite_not]
    by_cases hm : c.minute = 59
    · have range : InRange { c with minute := 0, second := 0, minuteCount := c.minuteCount + 1 } :=
        { h with minute := Nat.zero_le _, second := Nat.zero_le _ }
      rw [if_pos hm, hourStep_eq _ range]
      simp [lastYear, lastMonth, lastDay, lastHour, lastMinute, hs, hm]
    · simp [lastYear, lastMonth, lastDay, lastHour, lastMinute, hs, hm]
  · refine (if_neg hs).trans ?_
    simp [lastYear, lastMonth, lastDay, lastHour, lastMinute, hs]

/-! ## What a second step sends (R32, R33) -/

/-- The minute after a second step is one of an hour. -/
theorem step_minute (c : Clock) (h : InRange c) : c.step.minute ≤ 59 := by
  have := h.minute
  rw [(clock_step_eq c h).2.2]
  split
  · exact Nat.zero_le _
  · dsimp only
    split
    · exact Nat.zero_le _
    · split <;> omega

/-- The ticks of a second step, in the words of R32. -/
theorem ticksOf_eq (c new : Clock) (lastMinute : Prop) [Decidable lastMinute] (h : c.minuteDue = true ↔ lastMinute)
    (hm : new.minute ≤ 59) :
    ticksOf c new = [TickUnit.second] ++ (if lastMinute then [.minute] else []) ++
      (if lastMinute ∧ new.minute ∈ [0, 15, 30, 45] then [.quarterHour] else []) ++
      if lastMinute ∧ new.minute = 0 then [.hour] else [] := by
  have quarter : new.minute % 15 = 0 ↔ new.minute ∈ [0, 15, 30, 45] := by
    simp only [List.mem_cons, List.not_mem_nil, or_false]
    omega
  unfold ticksOf
  simp only [h, quarter]
  by_cases last : lastMinute <;> simp [last]

/-! ### A second step by phase (R20, R35, R171) -/

theorem secondStep_unpowered (s : State) (h : s.phase = .unpowered) : s.secondStep = s := by
  unfold State.secondStep
  rw [h]

theorem secondStep_coldStart (s : State) (h : s.phase = .coldStart) : s.secondStep = s.stepClock := by
  unfold State.secondStep
  rw [h]

theorem secondStep_held (s : State) (h : s.phase = .held) : s.secondStep = s.stepClock.secondAtPumps := by
  unfold State.secondStep
  rw [h]

theorem secondStep_running (s : State) (h : s.phase = .running) :
    s.secondStep = s.stepClock.secondAtPumps.secondAtScreens.sendSecond s.time.clock s.time.clock.step := by
  unfold State.secondStep
  rw [h]

/-- What a second step sends while the part runs, channel by channel. -/
theorem sendSecond_eq (old new : Clock) (s : State) (lastMinute centuryEnd : Prop) [Decidable lastMinute]
    [Decidable centuryEnd] (ticks : List TickUnit) (ht : ticksOf old new = ticks)
    (due : old.minuteDue = true ↔ lastMinute) (century : old.atCenturyEnd = true ↔ centuryEnd) :
    let sent := if centuryEnd then [TimeEvent.timeSet 52595999 0 true]
      else if lastMinute then [TimeEvent.minute new.minuteEvent] else []
    let markSent := if centuryEnd then (if old.suspect then [] else [TimeEvent.suspectChange true]) else []
    s.sendSecond old new = { s with wires := { s.wires with
      ticks := s.wires.ticks ++ ticks, toTide := s.wires.toTide ++ (sent ++ markSent)
      toLevel := s.wires.toLevel ++ sent, toAlarm := s.wires.toAlarm ++ (sent ++ markSent) } } := by
  unfold State.sendSecond
  simp only [ht, due, century]
  by_cases hc : centuryEnd
  · cases hs : old.suspect <;> simp [hc, State.sendTime, State.sendSuspectChange, lastInstant]
  · by_cases hm : lastMinute <;> simp [hc, hm, State.sendTime]

end Sys2Proof

open Sys2Proof Sys2Proof.Machine

/-- Settles O28: the clock by its carries, a second at every record, and what the running part sends. -/
theorem secondStepCarriesSendsAndCounts : Obligations.SecondStepCarriesSendsAndCounts := by
  intro s h c lastMinute lastHour lastDay lastMonth lastYear centuryEnd new time counted pump pumps screen minute jump marked
    ticks sent markSent
  obtain ⟨due, century, step⟩ := clock_step_eq c h.inRange
  have step : c.step = new := step
  have clock : s.stepClock = { s with time := time } :=
    congrArg (fun k => ({ s with time := { s.time with divider := 0, clock := k } } : State)) step
  have records : s.stepClock.secondAtPumps = { s with time := time, pumps := pumps } := by
    rw [clock]
    exact congrArg (fun f => ({ s with time := time, pumps := { s.pumps with records := tab f } } : State))
      (funext fun p => pump_second_eq (s.pump p))
  have screens : s.stepClock.secondAtPumps.secondAtScreens =
      { s with time := time, pumps := pumps, screens := tab fun n => screen (s.screen n) } := by
    rw [records]
    exact congrArg (fun f => ({ s with time := time, pumps := pumps, screens := tab f } : State))
      (funext fun n => screen_second_eq (s.screen n))
  refine ⟨fun hp => ?_, fun hp => ?_, fun hp => ?_, fun hp => ?_⟩
  · exact congrArg Host.Outcome.next (secondStep_unpowered s hp)
  · exact congrArg Host.Outcome.next ((secondStep_coldStart s hp).trans clock)
  · exact congrArg Host.Outcome.next ((secondStep_held s hp).trans records)
  · have minutes : new.minute ≤ 59 := step ▸ step_minute c h.inRange
    have tick : ticksOf c new = ticks := ticksOf_eq c new lastMinute due minutes
    refine congrArg Host.Outcome.next ((secondStep_running s hp).trans ?_)
    rw [screens, show s.time.clock.step = new from step]
    exact sendSecond_eq c new _ lastMinute centuryEnd ticks tick due century

end


/-!
# The end of a wash by HOLD_SCREEN or a cancel

What the hold and the cancel do by the state they find.
-/

section
namespace Sys2Proof

open Sys2Proof.Machine

/-! ## The choke state (R128) -/

theorem chokeState_iff (s : State) : s.chokeState = true ↔
    ∃ n, s.screenFitted n = true ∧ (s.screen n).service = .inService ∧ (s.screen n).choked = true := by
  unfold State.chokeState State.fittedScreenList
  simp [List.any_eq_true, mem_indices]

/-- A HELD screen carries no choked mark, so that the mark alone says the choke state. -/
theorem chokeState_isMark : ChokeStateIsMark := by
  refine fun s => ⟨chokeState_iff s, fun held => (chokeState_iff s).trans (exists_congr fun n => and_congr_right fun _ => ?_)⟩
  refine ⟨fun h => h.2, fun h => ⟨?_, h⟩⟩
  cases hs : (s.screen n).service with
  | inService => rfl
  | held => exact absurd ((held n hs).symm.trans h) Bool.false_ne_true

/-! ## HOLD_SCREEN and the cancel of a wash order (R130, R131) -/

section byState
variable (n : ScreenNo) (s : State)

/-- The cancel of the wash order of a QUEUED screen. -/
theorem cancelWash_queued (h : (s.screen n).state = .queued) :
    s.cancelWash n = washOrderEnded (s.screen n) .cancelled
      (withScreen s n { parkedScreen (s.screen n) with washOrder := none }
        { s.wash with queue := without n s.wash.queue }) := by
  rw [cancelWash_eq]
  dsimp only
  rw [h]

/-- The cancel of the wash order of a screen that holds a slot. -/
theorem cancelWash_slot (h : (s.screen n).state = .starting ∨ (s.screen n).state = .washing) :
    s.cancelWash n = washOrderEnded (s.screen n) .cancelled
      (withScreen s n { rundownScreen (s.screen n) with washOrder := none }
        { s.wash with slots := s.wash.slots - 1 }) := by
  rw [cancelWash_eq]
  dsimp only
  rcases h with h | h <;> rw [h]

/-- The cancel of the wash order that a screen in RUNDOWN holds for a further wash. -/
theorem cancelWash_rundown (h : (s.screen n).state = .rundown) :
    s.cancelWash n = washOrderEnded (s.screen n) .cancelled
      (withScreen s n { s.screen n with again := false, stored := CauseSet.empty, washOrder := none } s.wash) := by
  rw [cancelWash_eq]
  dsimp only
  split
  case h_4 => rfl
  all_goals
    rename_i other
    cases h.symm.trans other

theorem holdWash_queued (h : (s.screen n).state = .queued) :
    outOfService n (s.holdWash n) =
      withScreen s n (heldScreen (parkedScreen (s.screen n))) { s.wash with queue := without n s.wash.queue } := by
  rw [outOfService_holdWash]
  dsimp only
  rw [h]

theorem holdWash_slot (h : (s.screen n).state = .starting ∨ (s.screen n).state = .washing) :
    outOfService n (s.holdWash n) =
      withScreen s n (heldScreen (rundownScreen (s.screen n))) { s.wash with slots := s.wash.slots - 1 } := by
  rw [outOfService_holdWash]
  dsimp only
  rcases h with h | h <;> rw [h]

theorem holdWash_rest
    (h : (s.screen n).state = .parked ∨ (s.screen n).state = .rundown ∨ (s.screen n).state = .stalled) :
    outOfService n (s.holdWash n) = withScreen s n (heldScreen (s.screen n)) s.wash := by
  rw [outOfService_holdWash]
  dsimp only
  rcases h with h | h | h <;> rw [h]

end byState

/-- HOLD_SCREEN at its take, of a fitted screen (R131, R128). -/
theorem holdScreen_ends (s : State) (e : Entry) (rest : List Entry) (n : ScreenNo) (y : Screen) (w : Wash)
    (h : AtHead s e rest 0x0E) (hn : argNum s e 3 = n.1) (hf : s.screenFitted n = true)
    (ho : outOfService n ((takenState s e rest).holdWash n) = withScreen (takenState s e rest) n (heldScreen y) w) :
    Ends .holdScreen s e .ok [word (s.screen n).state.code]
      (chokeSent s.chokeState
        (washOrderEnded (s.screen n) .overtaken (withScreen (takenState s e rest) n (heldScreen y) w))) := by
  refine ends_of_rule (fun _ => rfl) rfl h ?_
  rw [holdScreenRule_eq, forScreen_atHead s e rest n _ hn hf, ho]
  rfl

/-- A cancel request for a screen takes the first message to it (R8). -/
theorem exec_washCancel (s : State) (n : ScreenNo) (e : Entry) (pre post : List (ScreenNo × Entry))
    (h : s.phase = .running) (hw : s.wires.washCancels = pre ++ (n, e) :: post) (hp : ∀ m ∈ pre, m.1 ≠ n) :
    exec (.washCancel n) s = .next
      (if (s.screen n).holds e then (withWires s { s.wires with washCancels := pre ++ post }).cancelWash n
        else withWires s { s.wires with washCancels := pre ++ post }) := by
  have first : takeFirst (fun m => m.1 == n) s.wires.washCancels = some ((n, e), pre ++ post) := by
    rw [hw]
    exact takeFirst_append _ pre (n, e) post (by simp) fun m hm => by simpa using hp m hm
  refine (congrArg Host.Outcome.next ?_ : exec (.washCancel n) s = _)
  unfold State.washCancel
  rw [s.whenRunning_running _ h, first]
  rfl

end Sys2Proof

open Sys2Proof Sys2Proof.Machine

/-- Settles O47: the wash ended by the state the hold or the cancel finds, then its order completed. -/
theorem holdAndCancelEndTheWash : Obligations.HoldAndCancelEndTheWash := by
  refine ⟨chokeState_isMark, fun s e rest n h hn hf => ?_, fun s n e pre post h hw hp => ?_⟩
  · have holds := fun y w => holdScreen_ends s e rest n y w h hn hf
    exact ⟨fun hx => holds _ _ (holdWash_queued n (takenState s e rest) hx),
      fun hx => holds _ _ (holdWash_slot n (takenState s e rest) hx),
      fun hx => holds _ _ (holdWash_rest n (takenState s e rest) hx)⟩
  · have cancel := exec_washCancel s n e pre post h hw hp
    refine ⟨fun hno => cancel.trans (congrArg Host.Outcome.next (if_neg fun hh => ?_)), fun o ho he => ?_⟩
    · obtain ⟨o, ho, he⟩ := (screen_holds_iff _ _).mp hh
      exact hno o ho he
    · rw [if_pos ((screen_holds_iff _ _).mpr ⟨o, ho, he⟩)] at cancel
      exact ⟨fun hx => cancel.trans (congrArg Host.Outcome.next (cancelWash_queued n _ hx)),
        fun hx => cancel.trans (congrArg Host.Outcome.next (cancelWash_slot n _ hx)),
        fun hx => cancel.trans (congrArg Host.Outcome.next (cancelWash_rundown n _ hx))⟩

end


/-!
# CHANGE

The checks of CHANGE, the event of an accepted one, and the cancel of the change order.
-/

section
namespace Sys2Proof

open Sys2Proof.Machine

/-! ## An event of the duty unit with a CHANGE in flight (R177, R178, R179) -/

/-- With a CHANGE in flight and as many pumps running as the limit allows, a reconcile does nothing and the shortfall mark is
settled. -/
theorem dutyEvent_onTarget (s : State) (before : Duty) (i o : PumpNo) (origin : Origin)
    (hm : s.duty.move = .change i o origin) (hl : s.duty.limit = runningLimit s.duty)
    (hr : s.duty.runningCount = s.duty.limit) (hd : before.disturbed s.duty = true) :
    s.dutyEvent before = s.setDuty { s.duty with shortfall := false } := by
  have limited : s.setDuty { s.duty with limit := s.duty.limitOf } = s := by
    rw [limitOf_eq, ← hl]
    rfl
  have flies : s.duty.move.inFlight = true := by rw [hm]; rfl
  have startsNone : s.duty.move.starting = 0 := by rw [hm]; rfl
  have case1 : s.duty.case1 = false := by simp [Duty.case1, hr, startsNone]
  have case2 : s.duty.case2 = false := by simp [Duty.case2, flies]
  have case3 : s.duty.case3 = false := by simp [Duty.case3, flies]
  have calm : s.reconcileOnce = none := by
    unfold State.reconcileOnce
    rw [case1, case2, case3]
    rfl
  have reconciled : s.reconcile = s := by
    unfold State.reconcile
    rw [calm, flies]
    rfl
  unfold State.dutyEvent
  dsimp only
  rw [limited, hd, if_pos rfl, reconciled]
  exact if_pos (by omega)

/-! ## Running and target set (R173, R176) -/

/-- A roster of distinct pumps whose running set is its target set runs as many pumps as the target takes. -/
theorem runningCount_onTarget (d : Duty) (h : d.roster.Nodup)
    (ht : ∀ p, p ∈ d.roster → (countedRunning d p = true ↔ p ∈ targetSet d)) :
    (countedSet d).length = (targetSet d).length := by
  have target : ∀ p, p ∈ targetSet d → p ∈ d.roster := fun p hp => (List.mem_filter.mp (List.mem_of_mem_take hp)).1
  have once : (targetSet d).Nodup := (h.filter _).sublist (List.take_sublist _ _)
  refine ((List.perm_ext_iff_of_nodup (h.filter _) once).mpr fun p => ?_).length_eq
  rw [List.mem_filter]
  exact ⟨fun hp => (ht p hp.1).mp hp.2, fun hp => ⟨target p hp, (ht p (target p hp)).mpr hp⟩⟩

/-- A target that leaves out an available pump of the roster is full. -/
theorem targetSet_full (d : Duty) (p : PumpNo) (hp : p ∈ d.roster) (ha : countedAvailable d p = true)
    (ht : p ∉ targetSet d) : (targetSet d).length = d.limit := by
  have wanted : p ∈ d.roster.filter fun q => countedRunning d q || countedAvailable d q :=
    List.mem_filter.mpr ⟨hp, by simp [ha]⟩
  have more : d.limit < (d.roster.filter fun q => countedRunning d q || countedAvailable d q).length := by
    by_contra hle
    refine ht ?_
    unfold targetSet
    rw [List.take_of_length_le (Nat.not_lt.mp hle)]
    exact wanted
  unfold targetSet
  rw [List.length_take]
  omega

/-- Two places of a roster exchanged. -/
theorem exchanged_perm (a b : PumpNo) (r : List PumpNo) (h : r.Nodup) (ha : a ∈ r) (hb : b ∈ r) :
    (exchanged a b r).Perm r := by
  have swap : exchanged a b r = r.map (Equiv.swap a b) :=
    List.map_congr_left fun p _ => (Equiv.swap_apply_def a b p).symm
  rw [swap]
  refine (List.perm_ext_iff_of_nodup (h.map (Equiv.swap a b).injective) h).mpr fun p => ?_
  rw [List.mem_map]
  have member : ∀ q, q ∈ r → Equiv.swap a b q ∈ r := by
    intro q hq
    rw [Equiv.swap_apply_def]
    split
    · exact hb
    · split
      · exact ha
      · exact hq
  refine ⟨?_, fun hp => ⟨Equiv.swap a b p, member p hp, Equiv.swap_apply_self a b p⟩⟩
  rintro ⟨q, hq, rfl⟩
  exact member q hq

/-! ## CHANGE, check by check (R189) -/

theorem pumpOfWord_above (w : Word) (h : 5 < w.toNat) : pumpOfWord w = none := dif_neg (by omega)

theorem pumpOfWord_some (w : Word) (h : w.toNat ≤ 5) : pumpOfWord w = some ⟨w.toNat, by omega⟩ := dif_pos (by omega)

theorem pumpOfWord_eq (w : Word) (p : PumpNo) (h : w.toNat = p.1) : pumpOfWord w = some p := by
  have le : w.toNat ≤ 5 := by
    have := p.isLt
    omega
  rw [pumpOfWord_some w le]
  exact congrArg some (Fin.ext h)

/-- The last check of CHANGE, in the words of R189. -/
theorem changeRefusal_eq (d : Duty) (o i : PumpNo) (hl : d.lock = false) (hm : d.move = .none) :
    (changeRefusal d o i = none ↔ countedRunning d o = true ∧ countedAvailable d i = true ∧ i ∉ targetSet d ∧
      ∀ p, p ∈ d.roster → (countedRunning d p = true ↔ p ∈ targetSet d)) ∧
      (changeRefusal d o i ≠ none → changeRefusal d o i = some .wrongState) := by
  have idle : d.move.inFlight = false := by rw [hm]; rfl
  unfold changeRefusal
  rw [hl, idle, if_neg Bool.false_ne_true, if_neg Bool.false_ne_true]
  constructor
  · rw [← onTarget_iff, ← countsRunning_eq, ← countsAvailable_eq, ← target_eq]
    split
    · next h => simpa [and_assoc] using h
    · next h => simpa [and_assoc] using h
  · split
    · exact fun h => absurd rfl h
    · exact fun _ => rfl

section takenChange
variable {s : State} {e : Entry} {rest : List Entry}

/-- The two pump numbers of CHANGE, each 0 to 5. -/
theorem changeArgs_some {a b : PumpNo} (ha : pumpOfWord (argWord s e 3) = some a)
    (hb : pumpOfWord (argWord s e 4) = some b) :
    changeArgs (s.copyEntry e) (takenState s e rest) =
      if s.pumpFitted a && s.pumpFitted b then .ok (a, b) else .error .notFitted := by
  unfold changeArgs
  simp only [copyEntry_argWord s e 3 (by omega) (by omega), copyEntry_argWord s e 4 (by omega) (by omega), ha, hb]
  rfl

theorem changeArgs_above (h : 5 < argNum s e 3 ∨ 5 < argNum s e 4) :
    changeArgs (s.copyEntry e) (takenState s e rest) = .error .badArgument := by
  unfold changeArgs
  rw [copyEntry_argWord s e 3 (by omega) (by omega), copyEntry_argWord s e 4 (by omega) (by omega)]
  split
  case h_1 ha hb =>
    rcases h with h | h
    · cases (pumpOfWord_above (argWord s e 3) h).symm.trans ha
    · cases (pumpOfWord_above (argWord s e 4) h).symm.trans hb
  all_goals rfl

theorem changeArgs_unfitted (h3 : argNum s e 3 ≤ 5) (h4 : argNum s e 4 ≤ 5)
    (hf : s.fittedPumps ≤ argNum s e 3 ∨ s.fittedPumps ≤ argNum s e 4) :
    changeArgs (s.copyEntry e) (takenState s e rest) = .error .notFitted := by
  rw [changeArgs_some (pumpOfWord_some (argWord s e 3) h3) (pumpOfWord_some (argWord s e 4) h4)]
  refine if_neg fun both => ?_
  obtain ⟨fitted, fitted'⟩ := Bool.and_eq_true_iff.mp both
  rcases hf with hf | hf
  · exact absurd (of_decide_eq_true fitted) (Nat.not_lt.mpr hf)
  · exact absurd (of_decide_eq_true fitted') (Nat.not_lt.mpr hf)

theorem changeArgs_fitted {o i : PumpNo} (h3 : argNum s e 3 = o.1) (h4 : argNum s e 4 = i.1)
    (ho : s.pumpFitted o = true) (hi : s.pumpFitted i = true) :
    changeArgs (s.copyEntry e) (takenState s e rest) = .ok (o, i) := by
  rw [changeArgs_some (pumpOfWord_eq (argWord s e 3) o h3) (pumpOfWord_eq (argWord s e 4) i h4)]
  exact if_pos (Bool.and_eq_true_iff.mpr ⟨ho, hi⟩)

/-- CHANGE runs its rule at the take. -/
theorem exec_change (h : AtHead s e rest 0x18) :
    exec .change s = .next (changeRule (s.copyEntry e) (takenState s e rest)) :=
  congrArg Host.Outcome.next (take_atHead s e rest 0x18 (some .change) changeRule h rfl)

/-- CHANGE refused by its arguments. -/
theorem change_badArgs (h : AtHead s e rest 0x18) (r : OrderResult)
    (hr : changeArgs (s.copyEntry e) (takenState s e rest) = .error r) : Refused .change s e rest r := by
  refine (exec_change h).trans (congrArg Host.Outcome.next ?_)
  unfold changeRule
  rw [hr]
  rfl

/-- CHANGE refused by the duty unit. -/
theorem change_refused (h : AtHead s e rest 0x18) (o i : PumpNo) (r : OrderResult)
    (ha : changeArgs (s.copyEntry e) (takenState s e rest) = .ok (o, i)) (hr : changeRefusal s.duty o i = some r) :
    Refused .change s e rest r := by
  refine (exec_change h).trans (congrArg Host.Outcome.next ?_)
  unfold changeRule
  rw [ha]
  dsimp only
  rw [takenState_duty, hr]
  rfl

/-- CHANGE accepted. -/
theorem change_accepted (h : AtHead s e rest 0x18) (o i : PumpNo)
    (ha : changeArgs (s.copyEntry e) (takenState s e rest) = .ok (o, i)) (hr : changeRefusal s.duty o i = none) :
    exec .change s = .next ((takenState s e rest).acceptChange (s.copyEntry e) o i) := by
  refine (exec_change h).trans (congrArg Host.Outcome.next ?_)
  unfold changeRule
  rw [ha]
  dsimp only
  rw [takenState_duty, hr]

end takenChange

/-- The duty record that an accepted CHANGE leaves to the event (R189). -/
def changedDuty (d : Duty) (e : Entry) (tag : Word) (o i : PumpNo) : Duty :=
  { d with
    roster := exchanged o i d.roster, savedRoster := some d.roster, move := .change i o .order
    changeOrder := some { entry := e, tag := tag } }

/-- An accepted CHANGE: the event of its take settles the shortfall mark alone. -/
theorem acceptChange_eq (w : WorkingCopy) (o i : PumpNo) (s : State) (h : RosterInv s) (hm : s.duty.move = .none)
    (ho : s.pumpFitted o = true) (hi : s.pumpFitted i = true) (ha : countedAvailable s.duty i = true)
    (hi' : i ∉ targetSet s.duty)
    (ht : ∀ p, p ∈ s.duty.roster → (countedRunning s.duty p = true ↔ p ∈ targetSet s.duty)) :
    s.acceptChange w o i =
      (s.askStart i).setDuty { changedDuty s.duty w.entry w.tag o i with shortfall := false } := by
  obtain ⟨⟨once, fitted⟩, -, -, limit⟩ := h
  have running : (changedDuty s.duty w.entry w.tag o i).runningCount = (countedSet s.duty).length :=
    ((exchanged_perm o i s.duty.roster once ((fitted o).mpr ho) ((fitted i).mpr hi)).filter _).length_eq
  have full : (countedSet s.duty).length = s.duty.limit :=
    (runningCount_onTarget s.duty once ht).trans (targetSet_full s.duty i ((fitted i).mpr hi) ha hi')
  refine dutyEvent_onTarget ((s.askStart i).setDuty (changedDuty s.duty w.entry w.tag o i)) s.duty i o .order rfl limit
    (running.trans full) ?_
  have moved : (s.duty.move != Move.change i o .order) = true := by
    rw [hm]
    rfl
  show s.duty.disturbed (changedDuty s.duty w.entry w.tag o i) = true
  simp [Duty.disturbed, changedDuty, moved]

/-! ## The cancel of the change order (R190) -/

theorem exec_changeCancel (s : State) (e : Entry) (rest : List Entry) (h : s.phase = .running)
    (hw : s.wires.changeCancels = e :: rest) :
    exec .changeCancel s = .next
      (if s.duty.holds e then (withWires s { s.wires with changeCancels := rest }).cancelChange
        else withWires s { s.wires with changeCancels := rest }) := by
  refine (congrArg Host.Outcome.next ?_ : exec .changeCancel s = _)
  unfold State.changeCancel
  rw [s.whenRunning_running _ h, hw]
  rfl

theorem cancelChange_eq (s : State) (i o : PumpNo) (origin : Origin) (h : s.duty.move = .change i o origin) :
    s.cancelChange =
      (changeOrderEnded .cancelled i o
        { stopSentTo i s with duty := restoredWith .none (stopSentTo i s).duty }).dutyEvent s.duty := by
  unfold State.cancelChange
  rw [h]
  dsimp only
  rw [abandonChange_eq, askStop_eq]

end Sys2Proof

open Sys2Proof Sys2Proof.Machine

/-- Settles O56: CHANGE's checks in order, the event of an accepted one, and the cancel by the move it finds. -/
theorem changeOrderAndCancel : Obligations.ChangeOrderAndCancel := by
  refine ⟨fun s e rest h inv => ⟨fun ha => ?_, fun h3 h4 hf => ?_, fun o i h3 h4 ho hi => ?_⟩, fun s e rest h hw => ?_⟩
  · exact change_badArgs h _ (changeArgs_above ha)
  · exact change_badArgs h _ (changeArgs_unfitted h3 h4 hf)
  · have args := changeArgs_fitted (rest := rest) h3 h4 ho hi
    refine ⟨fun hl => ?_, fun hl hm => ?_, fun hl hm hn => ?_, fun hl hm hp => ?_⟩
    · refine change_refused h o i _ args ?_
      unfold changeRefusal
      rw [hl]
      rfl
    · refine change_refused h o i _ args ?_
      unfold changeRefusal
      rw [hl, (inFlight_iff _).mpr hm]
      rfl
    · obtain ⟨possible, refused⟩ := changeRefusal_eq s.duty o i hl hm
      exact change_refused h o i _ args (refused fun hr => hn (possible.mp hr))
    · obtain ⟨possible, -⟩ := changeRefusal_eq s.duty o i hl hm
      obtain ⟨-, ha, hi', ht⟩ := id hp
      rw [change_accepted h o i args (possible.mpr hp),
        acceptChange_eq (s.copyEntry e) o i (takenState s e rest) inv hm ho hi ha hi' ht]
      rfl
  · have cancel := exec_changeCancel s e rest h hw
    refine ⟨fun hno => cancel.trans (congrArg Host.Outcome.next (if_neg fun hh => ?_)), fun c i o origin hc he hm => ?_⟩
    · obtain ⟨c, hc, he⟩ := (duty_holds_iff _ _).mp hh
      exact hno c hc he
    · refine cancel.trans (congrArg Host.Outcome.next ((if_pos ((duty_holds_iff _ _).mpr ⟨c, hc, he⟩)).trans ?_))
      exact cancelChange_eq (withWires s { s.wires with changeCancels := rest }) i o origin hm

end


/-!
# Events that leave the clock, the level board, the tide table and the alarms

Port, orders about records, screens, wash header, pumps and duty act downstream of the units that keep time, level, tide and
alarms: an event there leaves those four records (`Downstream`). The relation composes, so that each event is followed once.
-/

section
namespace Sys2Proof

open Sys2Proof.Machine

/-- The time, level, tide and alarm units stand. -/
structure Downstream (s t : State) : Prop where
  time : t.time = s.time
  level : t.level = s.level
  tide : t.tide = s.tide
  alarm : t.alarm = s.alarm

theorem Downstream.refl (s : State) : Downstream s s := ⟨rfl, rfl, rfl, rfl⟩

theorem Downstream.trans {s t u : State} (h : Downstream s t) (h' : Downstream t u) : Downstream s u :=
  ⟨h'.time.trans h.time, h'.level.trans h.level, h'.tide.trans h.tide, h'.alarm.trans h.alarm⟩

theorem Downstream.foldl {α : Type} (f : State → α → State) (h : ∀ s a, Downstream s (f s a)) (l : List α) (s : State) :
    Downstream s (l.foldl f s) := by
  induction l generalizing s with
  | nil => exact Downstream.refl s
  | cons a l ih => exact (h s a).trans (ih (f s a))

theorem DutyOnly.downstream {s t : State} (h : DutyOnly s t) : Downstream s t := by
  unfold DutyOnly at h
  constructor <;> rw [h]

/-- A branch is downstream if both sides are. -/
theorem Downstream.ite {s t u : State} {c : Prop} [Decidable c] (ht : Downstream s t) (hu : Downstream s u) :
    Downstream s (if c then t else u) := by
  split
  · exact ht
  · exact hu

theorem whenRunning_downstream (f : State → State) (s : State) (h : Downstream s (f s)) :
    Downstream s (s.whenRunning f) := by
  unfold State.whenRunning
  split
  · exact h
  all_goals exact Downstream.refl s

/-! ## Completions and takes (R10, R13) -/

theorem complete_downstream (s : State) (e : Entry) (tag : Option Word) (r : OrderResult) (answers : List Word) :
    Downstream s (s.complete e tag r answers) := (complete_dutyOnly s e tag r answers).downstream

theorem finish_downstream (o : WorkingCopy) (s : State) (r : Reply) (h : Downstream s r.1) : Downstream s (finish o r) :=
  h.trans (complete_downstream _ _ _ _ _)

theorem take_downstream (s : State) (kind : Option OrderKind) (body : WorkingCopy → State → State)
    (h : ∀ o t, Downstream t (body o t)) : Downstream s (s.take kind body) := by
  rcases s.take_cases kind body with ht | ⟨e, rest, -, -, -, ht⟩
  · rw [ht]
    exact Downstream.refl s
  · rw [ht]
    have taken : Downstream s (takenState s e rest) := ⟨rfl, rfl, rfl, rfl⟩
    exact taken.trans (h _ _)

theorem takeImmediate_downstream (s : State) (kind : OrderKind) (rule : WorkingCopy → State → Reply)
    (h : ∀ o t, Downstream t (rule o t).1) : Downstream s (s.takeImmediate kind rule) :=
  take_downstream s _ _ fun o t => finish_downstream o t _ (h o t)

/-- A rule that refuses or answers, by a condition. -/
theorem ite_downstream {c : Prop} [Decidable c] {s : State} {a b : Reply} (ha : Downstream s a.1) (hb : Downstream s b.1) :
    Downstream s (if c then a else b).1 := by
  split
  · exact ha
  · exact hb

theorem forScreen_downstream (w : Word) (s : State) (k : ScreenNo → Reply) (h : ∀ n, Downstream s (k n).1) :
    Downstream s (forScreen w s k).1 := by
  rcases forScreen_cases w s k with hk | hk | ⟨n, -, hk⟩ <;> rw [hk]
  · exact Downstream.refl s
  · exact Downstream.refl s
  · exact h n

theorem forPump_downstream (w : Word) (s : State) (k : PumpNo → Reply) (h : ∀ p, Downstream s (k p).1) :
    Downstream s (forPump w s k).1 := by
  rcases forPump_cases w s k with hk | hk | ⟨p, -, hk⟩ <;> rw [hk]
  · exact Downstream.refl s
  · exact Downstream.refl s
  · exact h p

/-! ## Host writes and snapshots -/

theorem writeHand_downstream (e : Entry) (w : Word) (s : State) : Downstream s (s.writeHand e w) := by
  unfold State.writeHand
  split <;> exact ⟨rfl, rfl, rfl, rfl⟩

theorem writeEntryWord_downstream (e : Entry) (o : Fin 32) (w : Word) (s : State) :
    Downstream s (s.writeEntryWord e o w) := by
  unfold State.writeEntryWord
  split <;> exact ⟨rfl, rfl, rfl, rfl⟩

theorem hostWrite_downstream (a : Addr) (w : Word) (s : State) : Downstream s (s.hostWrite a w) :=
  whenRunning_downstream _ s (.ite ⟨rfl, rfl, rfl, rfl⟩
    (.ite (writeHand_downstream _ w s) (writeEntryWord_downstream _ _ w s)))

theorem snapshotRule_downstream (o : WorkingCopy) (s : State) : Downstream s (snapshotRule o s).1 := by
  refine ite_downstream (.refl s) (ite_downstream (.refl s) (ite_downstream (.refl s) ?_))
  dsimp only [reply]
  rw [State.writeWords_frame]
  exact ⟨rfl, rfl, rfl, rfl⟩

/-! ## The screen and wash units -/

theorem washOrderEnded_downstream (x : Screen) (r : OrderResult) (s : State) : Downstream s (washOrderEnded x r s) := by
  unfold washOrderEnded
  split
  · exact .refl s
  · exact complete_downstream _ _ _ _ _

theorem withScreen_downstream (s : State) (n : ScreenNo) (x : Screen) (w : Wash) : Downstream s (withScreen s n x w) :=
  ⟨rfl, rfl, rfl, rfl⟩

theorem setScreen_downstream (s : State) (n : ScreenNo) (x : Screen) : Downstream s (s.setScreen n x) :=
  ⟨rfl, rfl, rfl, rfl⟩

theorem sendChokeFrom_downstream (old : Bool) (s : State) : Downstream s (s.sendChokeFrom old) :=
  .ite (.refl s) ⟨rfl, rfl, rfl, rfl⟩

theorem request_downstream (n : ScreenNo) (c : Cause) (s : State) : Downstream s (s.request n c) := by
  rw [request_eq]
  exact .ite (.refl s) (.ite (withScreen_downstream ..) (.ite (withScreen_downstream ..) (withScreen_downstream ..)))

theorem stallScreen_downstream (n : ScreenNo) (s : State) : Downstream s (s.stallScreen n) := by
  rw [stallScreen_eq]
  exact (withScreen_downstream ..).trans ((washOrderEnded_downstream _ _ _).trans ⟨rfl, rfl, rfl, rfl⟩)

theorem countedEnd_downstream (n : ScreenNo) (s : State) : Downstream s (s.countedEnd n) := by
  rw [countedEnd_eq]
  refine Downstream.trans ?_ (washOrderEnded_downstream _ _ _)
  split <;> exact ⟨rfl, rfl, rfl, rfl⟩

theorem turn_downstream (n : ScreenNo) (s : State) : Downstream s (s.turn n) := by
  unfold State.turn
  dsimp only
  split
  · exact setScreen_downstream ..
  · exact .ite (.ite (setScreen_downstream ..) ((setScreen_downstream ..).trans (countedEnd_downstream n _)))
      (setScreen_downstream ..)
  all_goals exact .refl s

theorem overload_downstream (n : ScreenNo) (s : State) : Downstream s (s.overload n) :=
  .ite (stallScreen_downstream n s) (.refl s)

theorem endRundown_downstream (n : ScreenNo) (s : State) : Downstream s (s.endRundown n) :=
  .ite ⟨rfl, rfl, rfl, rfl⟩ (setScreen_downstream ..)

theorem grantTo_downstream (n : ScreenNo) (s : State) : Downstream s (s.grantTo n) :=
  .ite ((setScreen_downstream ..).trans (stallScreen_downstream n _)) (setScreen_downstream ..)

theorem cancelWash_downstream (n : ScreenNo) (s : State) : Downstream s (s.cancelWash n) := by
  rw [cancelWash_eq]
  dsimp only
  split
  case h_5 | h_6 => exact .refl s
  all_goals exact (withScreen_downstream ..).trans (washOrderEnded_downstream _ _ _)

theorem differentialAt_downstream (n : ScreenNo) (d : Differential) (s : State) : Downstream s (s.differentialAt n d) := by
  have flagged : ∀ (c : Bool) (x : Screen) (w : Wash),
      Downstream s (withScreen (if c then withFlag s .screen else s) n x w) := by
    intro c x w
    cases c <;> exact ⟨rfl, rfl, rfl, rfl⟩
  rw [differentialAt_eq]
  exact .ite (.refl s) (.ite (flagged ..) (.ite (flagged ..) (.ite (flagged ..) (flagged ..))))

/-- A screen's field line, in every phase. -/
theorem line_downstream (fitted old level : Bool) (store event : State → State) (s : State) (hs : Downstream s (store s))
    (he : ∀ t, Downstream t (event t)) : Downstream s (s.line fitted old level store event) := by
  refine .ite ?_ (.refl s)
  split
  · exact .refl s
  · exact .refl s
  · exact hs
  · exact .ite (hs.trans (he _)) hs

theorem holdScreenRule_downstream (o : WorkingCopy) (s : State) : Downstream s (holdScreenRule o s).1 := by
  rw [holdScreenRule_eq]
  refine forScreen_downstream _ s _ fun n => ?_
  have held : Downstream s (outOfService n (s.holdWash n)) := by
    rw [outOfService_holdWash]
    dsimp only
    split <;> exact withScreen_downstream ..
  exact held.trans ((washOrderEnded_downstream _ _ _).trans (sendChokeFrom_downstream _ _))

theorem acceptWash_downstream (o : WorkingCopy) (n : ScreenNo) (s : State) : Downstream s (s.acceptWash o n) :=
  (setScreen_downstream ..).trans ((request_downstream n .order _).trans (.ite (setScreen_downstream ..) (.refl _)))

theorem washRule_downstream (o : WorkingCopy) (s : State) : Downstream s (washRule o s) := by
  unfold washRule
  split
  · exact finish_downstream o s _ (.refl s)
  · split
    · exact finish_downstream o s _ (.refl s)
    · exact acceptWash_downstream o _ s

theorem setScreenRule_downstream (o : WorkingCopy) (s : State) : Downstream s (setScreenRule o s).1 := by
  refine forScreen_downstream _ s _ fun n => ?_
  split
  · exact .refl s
  · exact ite_downstream (setScreen_downstream ..) (.refl s)

theorem resetScreenRule_downstream (o : WorkingCopy) (s : State) : Downstream s (resetScreenRule o s).1 :=
  forScreen_downstream _ s _ fun _ => ite_downstream (.refl s) (setScreen_downstream ..)

theorem setWashRule_downstream (o : WorkingCopy) (s : State) : Downstream s (setWashRule o s).1 :=
  ite_downstream (.refl s) (ite_downstream (.refl s) ⟨rfl, rfl, rfl, rfl⟩)

/-! ## The pump unit -/

theorem setPump_downstream (p : PumpNo) (x : Pump) (s : State) : Downstream s (s.setPump p x) := ⟨rfl, rfl, rfl, rfl⟩

theorem pumpEvent_downstream (p : PumpNo) (f : Pump → Pump) (s : State) : Downstream s (s.pumpEvent p f) := by
  rw [pumpEvent_eq]
  exact ⟨rfl, rfl, rfl, rfl⟩

theorem trip_downstream (cause : StopCause) (p : PumpNo) (s : State) : Downstream s (s.trip cause p) :=
  (pumpEvent_downstream p _ s).trans ⟨rfl, rfl, rfl, rfl⟩

theorem settlePumps_downstream (ps : List PumpNo) (s before : State) : Downstream s (State.settlePumps ps s before) := by
  have reevaluated := Downstream.foldl State.reevaluate (fun t p => setPump_downstream p _ t) ps s
  have reported := Downstream.foldl (State.reportIfChanged before)
    (fun t _ => .ite ⟨rfl, rfl, rfl, rfl⟩ (.refl t)) ps (ps.foldl State.reevaluate s)
  exact reevaluated.trans (reported.trans (.ite (.refl _) ⟨rfl, rfl, rfl, rfl⟩))

theorem start_downstream (p : PumpNo) (s : State) : Downstream s (s.start p) :=
  .ite (.ite (pumpEvent_downstream p _ s) ⟨rfl, rfl, rfl, rfl⟩) (.refl s)

theorem proof_downstream (p : PumpNo) (s : State) : Downstream s (s.proof p) := by
  unfold State.proof
  split
  · exact pumpEvent_downstream p _ s
  · exact setPump_downstream p _ s
  all_goals exact .refl s

theorem unproof_downstream (p : PumpNo) (s : State) : Downstream s (s.unproof p) := by
  unfold State.unproof
  split
  · exact setPump_downstream p _ s
  all_goals exact .refl s

theorem motorFault_downstream (p : PumpNo) (s : State) : Downstream s (s.motorFault p) := by
  unfold State.motorFault
  split
  case h_4 => exact pumpEvent_downstream p _ s
  case h_5 => exact .refl s
  all_goals exact trip_downstream _ p s

/-- A pump's field line, in every phase. -/
theorem pumpLine_downstream (p : PumpNo) (changes : Bool) (store event : State → State) (s : State)
    (hs : Downstream s (store s)) (he : ∀ t, Downstream t (event t)) : Downstream s (s.pumpLine p changes store event) := by
  refine .ite ?_ (.refl s)
  split
  · exact .refl s
  · exact .refl s
  · exact hs
  · exact hs.trans (he _)

theorem restartDelayEnd_downstream (p : PumpNo) (s : State) : Downstream s (s.restartDelayEnd p) := by
  refine .ite ?_ (.refl s)
  split
  · exact .refl s
  · exact .refl s
  · exact setPump_downstream p _ s
  · exact pumpEvent_downstream p _ s

theorem holdPumpRule_downstream (o : WorkingCopy) (s : State) : Downstream s (holdPumpRule o s).1 := by
  refine forPump_downstream _ s _ fun p => ?_
  dsimp only [reply]
  exact pumpEvent_downstream p _ s

theorem releasePumpRule_downstream (o : WorkingCopy) (s : State) : Downstream s (releasePumpRule o s).1 := by
  refine forPump_downstream _ s _ fun p => ?_
  dsimp only [reply]
  exact pumpEvent_downstream p _ s

theorem resetPumpRule_downstream (o : WorkingCopy) (s : State) : Downstream s (resetPumpRule o s).1 :=
  forPump_downstream _ s _ fun p => ite_downstream (.refl s) (pumpEvent_downstream p _ s)

theorem setPumpRule_downstream (o : WorkingCopy) (s : State) : Downstream s (setPumpRule o s).1 := by
  refine forPump_downstream _ s _ fun p => ite_downstream ?_ (.refl s)
  dsimp only [reply]
  exact pumpEvent_downstream p _ s

/-! ## The duty unit -/

/-- A change of the duty record, settled as an event. -/
theorem setDuty_dutyEvent_downstream (s : State) (d before : Duty) : Downstream s ((s.setDuty d).dutyEvent before) :=
  ((setDuty_dutyOnly s d).trans (dutyEvent_dutyOnly _ before)).downstream

theorem hearReport_downstream (r : PumpReport) (s : State) : Downstream s (s.hearReport r) :=
  ((setDuty_dutyOnly s _).trans ((moveRules_dutyOnly _ r _).trans (dutyEvent_dutyOnly _ _))).downstream

theorem cancelChange_downstream (s : State) : Downstream s s.cancelChange := by
  unfold State.cancelChange
  split
  · exact ((askStop_dutyOnly s _).trans ((abandonChange_dutyOnly _ _ _ _ _).trans (dutyEvent_dutyOnly _ _))).downstream
  · exact .refl s
  · exact .refl s

theorem rotate_downstream (s : State) : Downstream s s.rotate :=
  .ite (.refl s) (.ite ⟨rfl, rfl, rfl, rfl⟩ (setDuty_dutyEvent_downstream s _ _))

theorem changeRule_downstream (o : WorkingCopy) (s : State) : Downstream s (changeRule o s) := by
  unfold changeRule
  split
  · exact finish_downstream o s _ (.refl s)
  · split
    · exact finish_downstream o s _ (.refl s)
    · exact ((askStart_dutyOnly s _).trans ((setDuty_dutyOnly _ _).trans (dutyEvent_dutyOnly _ _))).downstream

theorem setDemandRule_downstream (o : WorkingCopy) (s : State) : Downstream s (setDemandRule o s).1 :=
  ite_downstream (.refl s) (ite_downstream (.refl s) (setDuty_dutyEvent_downstream s _ _))

theorem setChokeRule_downstream (o : WorkingCopy) (s : State) : Downstream s (setChokeRule o s).1 :=
  ite_downstream (.refl s) (ite_downstream (.refl s) (setDuty_dutyEvent_downstream s _ _))

theorem setRosterRule_downstream (o : WorkingCopy) (s : State) : Downstream s (setRosterRule o s).1 := by
  refine ite_downstream (.refl s) (ite_downstream (.refl s) ?_)
  split
  · exact .refl s
  · exact ite_downstream (.refl s) (ite_downstream (.refl s) (setDuty_dutyEvent_downstream s _ _))

/-! ## Every command downstream -/

/-- The commands of the units that keep time, level, tide and alarms, and those that power or reset the part. -/
def isUpstream : Instr → Bool
  | .powerApplication _ _ | .coldStartUpCompletion | .supplyLoss | .resetNFall | .resetNRelease | .crystalConfirmed
  | .crystalFailure | .confirmPeriodRestart | .secondStep | .unitTick | .timerExpiry _ | .intervalRestart _ | .setTime
  | .setTimer | .stopTimer | .setChannel | .setSea | .scanCompletion _ | .minuteEventLevel | .timeSetEventLevel | .loadTide
  | .swapTide | .minuteEventTide | .timeSetEventTide | .suspectChangeEventTide | .setAlarm | .ackAlarm | .minuteEventAlarm
  | .timeSetEventAlarm | .suspectChangeEventAlarm | .editionChangeEvent | .seaReport | .rateReport => true
  | _ => false

/-- Every command of the port, the screens, the wash header, the pumps and the duty unit is downstream. -/
theorem exec_downstream (c : Instr) (s : State) (h : isUpstream c = false) :
    ∃ t, exec c s = .next t ∧ Downstream s t := by
  have delivered : ∀ w : Wires, Downstream s { s with wires := w } := fun _ => ⟨rfl, rfl, rfl, rfl⟩
  cases c
  case powerApplication | coldStartUpCompletion | supplyLoss | resetNFall | resetNRelease | crystalConfirmed |
      crystalFailure | confirmPeriodRestart | secondStep | unitTick | timerExpiry | intervalRestart | setTime | setTimer |
      stopTimer | setChannel | setSea | scanCompletion | minuteEventLevel | timeSetEventLevel | loadTide | swapTide |
      minuteEventTide | timeSetEventTide | suspectChangeEventTide | setAlarm | ackAlarm | minuteEventAlarm |
      timeSetEventAlarm | suspectChangeEventAlarm | editionChangeEvent | seaReport | rateReport => cases h
  case arrival | withdrawal | giveBack | cancelRequest | handIllegal | entryWordWrite | bulkWrite =>
    exact ⟨_, rfl, hostWrite_downstream _ _ s⟩
  case summaryWrite | enableWrite | readOnly => exact ⟨_, rfl, whenRunning_downstream _ s ⟨rfl, rfl, rfl, rfl⟩⟩
  case faultWrite => exact ⟨_, rfl, whenRunning_downstream _ s (.ite ⟨rfl, rfl, rfl, rfl⟩ (.refl s))⟩
  case unknownKind => exact ⟨_, rfl, take_downstream s _ _ fun o t => finish_downstream o t _ (.refl t)⟩
  case describe => exact ⟨_, rfl, takeImmediate_downstream s _ _ fun _ t => .refl t⟩
  case snapshot => exact ⟨_, rfl, takeImmediate_downstream s _ _ snapshotRule_downstream⟩
  case setScreen => exact ⟨_, rfl, takeImmediate_downstream s _ _ setScreenRule_downstream⟩
  case wash => exact ⟨_, rfl, take_downstream s _ _ washRule_downstream⟩
  case holdScreen => exact ⟨_, rfl, takeImmediate_downstream s _ _ holdScreenRule_downstream⟩
  case releaseScreen =>
    exact ⟨_, rfl, takeImmediate_downstream s _ _ fun _ t =>
      forScreen_downstream _ t _ fun _ => setScreen_downstream ..⟩
  case resetScreen => exact ⟨_, rfl, takeImmediate_downstream s _ _ resetScreenRule_downstream⟩
  case setWash => exact ⟨_, rfl, takeImmediate_downstream s _ _ setWashRule_downstream⟩
  case setPump => exact ⟨_, rfl, takeImmediate_downstream s _ _ setPumpRule_downstream⟩
  case holdPump => exact ⟨_, rfl, takeImmediate_downstream s _ _ holdPumpRule_downstream⟩
  case releasePump => exact ⟨_, rfl, takeImmediate_downstream s _ _ releasePumpRule_downstream⟩
  case resetPump => exact ⟨_, rfl, takeImmediate_downstream s _ _ resetPumpRule_downstream⟩
  case setDemand => exact ⟨_, rfl, takeImmediate_downstream s _ _ setDemandRule_downstream⟩
  case setRoster => exact ⟨_, rfl, takeImmediate_downstream s _ _ setRosterRule_downstream⟩
  case change => exact ⟨_, rfl, take_downstream s _ _ changeRule_downstream⟩
  case lockDuty => exact ⟨_, rfl, takeImmediate_downstream s _ _ fun _ _ => ⟨rfl, rfl, rfl, rfl⟩⟩
  case setChoke => exact ⟨_, rfl, takeImmediate_downstream s _ _ setChokeRule_downstream⟩
  case turnEdge n level =>
    exact ⟨_, rfl, line_downstream _ _ _ _ _ s (setScreen_downstream ..) (turn_downstream n)⟩
  case overloadEvent n level =>
    exact ⟨_, rfl, line_downstream _ _ _ _ _ s (setScreen_downstream ..) (overload_downstream n)⟩
  case proofEdge p =>
    exact ⟨_, rfl, pumpLine_downstream p _ _ _ s (setPump_downstream p _ s) (proof_downstream p)⟩
  case proofDrop p =>
    exact ⟨_, rfl, pumpLine_downstream p _ _ _ s (setPump_downstream p _ s) (unproof_downstream p)⟩
  case motorFaultEvent p =>
    exact ⟨_, rfl, pumpLine_downstream p _ _ _ s (setPump_downstream p _ s) (motorFault_downstream p)⟩
  case motorFaultClear p =>
    exact ⟨_, rfl, pumpLine_downstream p _ _ _ s (setPump_downstream p _ s) (pumpEvent_downstream p _)⟩
  case restartDelayEnd p => exact ⟨_, rfl, restartDelayEnd_downstream p s⟩
  case turnWatchExpiry n => exact ⟨_, rfl, whenRunning_downstream _ s (.ite (stallScreen_downstream n s) (.refl s))⟩
  case rundownExpiry n => exact ⟨_, rfl, whenRunning_downstream _ s (.ite (endRundown_downstream n s) (.refl s))⟩
  case proveWatchExpiry p | lossWatchExpiry p =>
    exact ⟨_, rfl, whenRunning_downstream _ s (.ite (trip_downstream _ p s) (.refl s))⟩
  case stoppingClockExpiry p => exact ⟨_, rfl, whenRunning_downstream _ s (.ite (pumpEvent_downstream p _ s) (.refl s))⟩
  case startRequest =>
    refine ⟨_, rfl, whenRunning_downstream _ s ?_⟩
    split
    · exact (delivered _).trans (start_downstream _ _)
    · exact .refl s
  case stopRequest =>
    refine ⟨_, rfl, whenRunning_downstream _ s ?_⟩
    split
    · exact (delivered _).trans (pumpEvent_downstream _ _ _)
    · exact .refl s
  case grant =>
    refine ⟨_, rfl, whenRunning_downstream _ s (.ite ?_ (.refl s))⟩
    split
    · exact .refl s
    · next n _ rest _ =>
      exact .trans (t := s.setWash { s.wash with queue := rest, slots := s.wash.slots + 1 }) ⟨rfl, rfl, rfl, rfl⟩
        (grantTo_downstream n _)
  all_goals refine ⟨_, rfl, whenRunning_downstream _ s ?_⟩
  case differentialReport =>
    split
    · exact .refl s
    · exact (delivered _).trans ((Downstream.foldl _ (fun t (m : ScreenNo × Differential) =>
        differentialAt_downstream m.1 m.2 t) _ _).trans (sendChokeFrom_downstream _ _))
  case wReport =>
    split
    · exact .refl s
    · have heard : ∀ (t : State) (w : Measure), Downstream t (t.hearW w) := fun _ _ => ⟨rfl, rfl, rfl, rfl⟩
      exact (delivered _).trans ((heard _ _).trans
        ((settlePumps_downstream _ _ _).trans (setFlagIf_dutyOnly _ _ _).downstream))
  case hReport =>
    split
    · exact .refl s
    · exact .ite ⟨rfl, rfl, rfl, rfl⟩ ⟨rfl, rfl, rfl, rfl⟩
  case wReportDuty | runningPumpReport =>
    split
    · exact .refl s
    · exact ⟨rfl, rfl, rfl, rfl⟩
  case washRequest =>
    split
    · exact .refl s
    · exact .ite ((delivered _).trans (request_downstream _ _ _)) (delivered _)
  case washCancel =>
    split
    · exact .refl s
    · exact .ite ((delivered _).trans (cancelWash_downstream _ _)) (delivered _)
  case chokeChangeEvent | actionChangeEvent =>
    split
    · exact .refl s
    · exact (delivered _).trans (setDuty_dutyEvent_downstream _ _ _)
  case pumpChangeReport =>
    split
    · exact .refl s
    · exact (delivered _).trans (hearReport_downstream _ _)
  case changeCancel =>
    split
    · exact .refl s
    · exact .ite ((delivered _).trans (cancelChange_downstream _)) (delivered _)
  case rotationExpiry =>
    split
    · exact .refl s
    · exact (delivered _).trans (rotate_downstream _)

end Sys2Proof
end


/-!
# The clock and the timer bank at every step

What a command can do to the time unit is said once (`TimeMove`). Each move of the clock leaves it a date with its weekday and
minute count (`Dated`), carry by carry, and each move of the timer bank leaves the timers in range (`TimerRanged`).
-/

section
namespace Sys2Proof

open Sys2Proof.Machine

/-! ## The days of the calendar (R31) -/

theorem monthLength_pos (year month : Nat) : 1 ≤ monthLength year month := by
  unfold monthLength
  split
  · split <;> omega
  · split <;> omega

/-- The day after a day of the same month. -/
theorem dayNumber_nextDay (year month day : Nat) (h : 1 ≤ day) :
    dayNumber year month (day + 1) = dayNumber year month day + 1 := by
  unfold dayNumber
  omega

/-- The day after the last of a month. -/
theorem dayNumber_nextMonth (year month : Nat) (h : 1 ≤ month) :
    dayNumber year (month + 1) 1 = dayNumber year month (monthLength year month) + 1 := by
  obtain ⟨k, rfl⟩ : ∃ k, month = k + 1 := ⟨month - 1, by omega⟩
  have pos := monthLength_pos year (k + 1)
  unfold dayNumber
  rw [daysBeforeMonth]
  omega

/-- The day after the last of a year. -/
theorem dayNumber_nextYear (year : Nat) (h : 2000 ≤ year) : dayNumber (year + 1) 1 1 = dayNumber year 12 31 + 1 := by
  have leap : year % 4 = (year - 2000) % 4 := by omega
  have days : daysBeforeMonth year 12 = if year % 4 = 0 then 335 else 334 := by
    by_cases h4 : year % 4 = 0 <;> simp [daysBeforeMonth, monthLength, h4]
  unfold dayNumber daysBeforeYear
  rw [days, daysBeforeMonth]
  split <;> omega

/-! ## The clock (R31, R33, R36) -/

/-- A clock that shows a date and time of 2000 to 2099 with the weekday and minute count of that date and time. -/
structure Dated (c : Clock) : Prop where
  year : 2000 ≤ c.year ∧ c.year ≤ 2099
  month : 1 ≤ c.month ∧ c.month ≤ 12
  day : 1 ≤ c.day ∧ c.day ≤ monthLength c.year c.month
  hour : c.hour ≤ 23
  minute : c.minute ≤ 59
  second : c.second ≤ 59
  weekday : c.weekday = (5 + dayNumber c.year c.month c.day) % 7
  minuteCount : c.minuteCount = 1440 * dayNumber c.year c.month c.day + 60 * c.hour + c.minute

theorem timeArgsOk_iff (year month day hour minute second : Nat) :
    timeArgsOk year month day hour minute second = true ↔
      (2000 ≤ year ∧ year ≤ 2099) ∧ (1 ≤ month ∧ month ≤ 12) ∧ (1 ≤ day ∧ day ≤ monthLength year month) ∧
        hour ≤ 23 ∧ minute ≤ 59 ∧ second ≤ 59 := by
  simp [timeArgsOk, and_assoc]

theorem clockInv_iff (s : State) : ClockInv s ↔ Dated s.time.clock := by
  constructor
  · rintro ⟨args, weekday, minuteCount⟩
    obtain ⟨year, month, day, hour, minute, second⟩ := (timeArgsOk_iff ..).mp args
    exact ⟨year, month, day, hour, minute, second, weekday, minuteCount⟩
  · rintro ⟨year, month, day, hour, minute, second, weekday, minuteCount⟩
    exact ⟨(timeArgsOk_iff ..).mpr ⟨year, month, day, hour, minute, second⟩, weekday, minuteCount⟩

theorem Dated.inRange {c : Clock} (h : Dated c) : InRange c where
  year := h.year.2
  month := h.month.2
  day := monthLength_eq .. ▸ h.day.2
  weekday := h.weekday ▸ Nat.mod_lt _ (by omega)
  hour := h.hour
  minute := h.minute
  second := h.second

/-- The mark is no part of the date. -/
theorem Dated.withSuspect {c : Clock} (h : Dated c) (b : Bool) : Dated { c with suspect := b } := { h with }

theorem cold_dated : Dated Clock.cold := ⟨by decide, by decide, by decide, by decide, by decide, by decide, rfl, rfl⟩

/-- A date that SET_TIME accepts is loaded with its weekday and minute count (R36). -/
theorem loadedClock_dated (year month day hour minute second : Nat)
    (h : timeArgsOk year month day hour minute second = true) : Dated (loadedClock year month day hour minute second) := by
  obtain ⟨hy, hm, hd, hh, hmin, hs⟩ := (timeArgsOk_iff ..).mp h
  exact ⟨hy, hm, hd, hh, hmin, hs, rfl, rfl⟩

/-- A midnight: the day number grows by one, and with it weekday and minute count. -/
theorem Dated.midnight {c : Clock} (h : Dated c) (hour : c.hour = 23) (minute : c.minute = 59) {year month day : Nat}
    (hy : 2000 ≤ year ∧ year ≤ 2099) (hm : 1 ≤ month ∧ month ≤ 12) (hd : 1 ≤ day ∧ day ≤ monthLength year month)
    (next : dayNumber year month day = dayNumber c.year c.month c.day + 1) :
    Dated { year := year, month := month, day := day, weekday := (c.weekday + 1) % 7, hour := 0, minute := 0, second := 0
            minuteCount := c.minuteCount + 1, suspect := c.suspect } := by
  have weekday := h.weekday
  have minuteCount := h.minuteCount
  exact ⟨hy, hm, hd, Nat.zero_le _, Nat.zero_le _, Nat.zero_le _, by dsimp only; omega, by dsimp only; omega⟩

/-- A second step takes a date to the next second's, or at the century end to the first of 2000 (R31, R33). -/
theorem step_dated (c : Clock) (h : Dated c) : Dated c.step := by
  obtain ⟨-, -, step⟩ := clock_step_eq c h.inRange
  have count := h.minuteCount
  have december : c.month = 12 → monthLength c.year c.month = 31 := fun hm => by rw [hm]; rfl
  rw [step, ← monthLength_eq]
  by_cases lastMinute : c.second = 59
  swap
  · simp only [eq_false lastMinute, false_and, if_false]
    exact { h with second := by have := h.second; dsimp only; omega }
  by_cases lastHour : c.minute = 59
  swap
  · simp only [eq_true lastMinute, eq_false lastHour, false_and, and_false, if_true, if_false]
    exact { h with
      minute := by have := h.minute; dsimp only; omega
      second := Nat.zero_le _
      minuteCount := by dsimp only; omega }
  by_cases lastDay : c.hour = 23
  swap
  · simp only [eq_true lastMinute, eq_true lastHour, eq_false lastDay, false_and, and_false, and_true, if_true, if_false]
    exact { h with
      hour := by have := h.hour; dsimp only; omega
      minute := Nat.zero_le _
      second := Nat.zero_le _
      minuteCount := by dsimp only; omega }
  by_cases lastMonth : c.day = monthLength c.year c.month
  swap
  · simp only [eq_true lastMinute, eq_true lastHour, eq_true lastDay, eq_false lastMonth, false_and, and_false, and_true,
      if_true, if_false]
    exact h.midnight lastDay lastHour h.year h.month (by have := h.day; omega) (dayNumber_nextDay _ _ _ h.day.1)
  have firstDay : ∀ year month, 1 ≤ 1 ∧ 1 ≤ monthLength year month := fun _ _ => ⟨Nat.le_refl 1, monthLength_pos _ _⟩
  by_cases lastYear : c.month = 12
  swap
  · have range := h.month
    simp only [eq_true lastMinute, eq_true lastHour, eq_true lastDay, eq_true lastMonth, eq_false lastYear, false_and,
      and_false, and_true, if_true, if_false]
    refine h.midnight lastDay lastHour h.year (by omega) (firstDay _ _) ?_
    rw [dayNumber_nextMonth _ _ h.month.1, ← lastMonth]
  by_cases centuryEnd : c.year = 2099
  · rw [if_pos ⟨⟨⟨⟨⟨lastMinute, lastHour⟩, lastDay⟩, lastMonth⟩, lastYear⟩, centuryEnd⟩]
    exact cold_dated
  · have range := h.year
    simp only [eq_true lastMinute, eq_true lastHour, eq_true lastDay, eq_true lastMonth, eq_true lastYear,
      eq_false centuryEnd, and_false, and_true, if_true, if_false]
    refine h.midnight lastDay lastHour (by omega) (by omega) (firstDay _ _) ?_
    rw [dayNumber_nextYear _ h.year.1, lastMonth, december lastYear, lastYear]

/-! ## The timer bank (R38, R41) -/

/-- A timer whose preset and count lie between 1 and 4095 (R38). -/
def TimerRanged (x : Timer) : Prop := 1 ≤ x.preset ∧ x.preset ≤ 4095 ∧ 1 ≤ x.count ∧ x.count ≤ 4095

/-- A timer whose count is loaded from its preset is in range. -/
theorem TimerRanged.reload {x y : Timer} (h : TimerRanged x) (hp : y.preset = x.preset) (hc : y.count = x.preset) :
    TimerRanged y := by
  unfold TimerRanged at *
  omega

theorem TimerRanged.tick {x : Timer} (h : TimerRanged x) (u : TickUnit) : TimerRanged (x.tick u) := by
  unfold Timer.tick
  split
  · next above =>
    simp only [Bool.and_eq_true, decide_eq_true_eq] at above
    unfold TimerRanged at *
    dsimp only
    omega
  · exact h

theorem tick_owner (x : Timer) (u : TickUnit) : (x.tick u).owner = x.owner := by
  unfold Timer.tick
  split <;> rfl

/-- Another timer has the owner, which only a screen and rotation have alone (R42). -/
theorem ownerHeld_iff (s : State) (t : TimerNo) (o : TimerOwner) :
    s.ownerHeld t o = true ↔ o ≠ .none ∧ o ≠ .report ∧ ∃ v, v ≠ t ∧ (s.timer v).owner = o := by
  have others : (!(indices fun u => u != t && (s.timer u).owner == o).isEmpty) = true ↔
      ∃ v, v ≠ t ∧ (s.timer v).owner = o := by
    rw [Bool.not_eq_true', List.isEmpty_eq_false_iff_exists_mem]
    simp
  cases o
  case none | report => simp [State.ownerHeld]
  case screen | rotation => exact others.trans (by simp)

/-! ## What a command can do to the time unit -/

/-- The moves of the clock: none, the mark set (R29), a second (R31), a load (R36), power (R35). -/
inductive ClockMove (c : Clock) : Clock → Prop
  | stays : ClockMove c c
  | marked : ClockMove c { c with suspect := true }
  | steps : ClockMove c c.step
  | loads (year month day hour minute second : Nat) (h : timeArgsOk year month day hour minute second = true) :
      ClockMove c (loadedClock year month day hour minute second)
  | cold : ClockMove c Clock.cold

/-- The moves of the timer bank: timers that stand, count or reload, each under its owner (R38, R44 to R48); one rewritten to an
owner that no other has (R42, R43); power (R48). -/
inductive BankMove (v : Vector Timer 16) : Vector Timer 16 → Prop
  | counts (w : Vector Timer 16)
      (h : ∀ t, (sel w t).owner = (sel v t).owner ∧ (TimerRanged (sel v t) → TimerRanged (sel w t))) : BankMove v w
  | rewrites (t : TimerNo) (x : Timer) (ranged : TimerRanged x)
      (alone : ∀ u, u ≠ t → (sel v u).owner = x.owner → x.owner = .none ∨ x.owner = .report) : BankMove v (upd v t x)
  | cold : BankMove v (tab fun _ => Timer.cold)

/-- What a command can do to the time unit. -/
structure TimeMove (t u : TimeUnit) : Prop where
  clock : ClockMove t.clock u.clock
  bank : BankMove t.timers u.timers

theorem ClockMove.dated {c d : Clock} (h : ClockMove c d) (i : Dated c) : Dated d := by
  cases h with
  | stays => exact i
  | marked => exact i.withSuspect true
  | steps => exact step_dated c i
  | loads year month day hour minute second h => exact loadedClock_dated _ _ _ _ _ _ h
  | cold => exact cold_dated

theorem BankMove.refl (v : Vector Timer 16) : BankMove v v := .counts v fun _ => ⟨rfl, id⟩

/-- One timer that counts or reloads under its owner. -/
theorem BankMove.one (v : Vector Timer 16) (t : TimerNo) (x : Timer) (ho : x.owner = (sel v t).owner)
    (hr : TimerRanged (sel v t) → TimerRanged x) : BankMove v (upd v t x) := by
  refine .counts _ fun u => ?_
  rw [sel_upd]
  split
  · next h => exact h ▸ ⟨ho, hr⟩
  · exact ⟨rfl, id⟩

theorem BankMove.timerInv {s t : State} (h : BankMove s.time.timers t.time.timers) (i : TimerInv s) : TimerInv t := by
  obtain ⟨ranged, alone⟩ := i
  unfold TimerInv State.timer
  generalize t.time.timers = w at h
  cases h with
  | counts _ h =>
    refine ⟨fun t => (h t).2 (ranged t), fun t u hne ho => ?_⟩
    rw [(h t).1, (h u).1] at ho
    rw [(h t).1]
    exact alone t u hne ho
  | rewrites r x hx free =>
    refine ⟨fun t => ?_, fun t u hne ho => ?_⟩
    · rw [sel_upd]
      split
      · exact hx
      · exact ranged t
    · rw [sel_upd, sel_upd] at ho
      rw [sel_upd]
      by_cases ht : t = r <;> by_cases hu : u = r
      · exact absurd (ht.trans hu.symm) hne
      · rw [if_pos ht, if_neg hu] at ho
        rw [if_pos ht]
        exact free u hu ho.symm
      · rw [if_neg ht, if_pos hu] at ho
        rw [if_neg ht, ho]
        exact free t ht ho
      · rw [if_neg ht, if_neg hu] at ho
        rw [if_neg ht]
        exact alone t u hne ho
  | cold =>
    simp only [sel_tab]
    exact ⟨fun _ => by decide, fun _ _ _ _ => Or.inl rfl⟩

theorem TimeMove.refl (t : TimeUnit) : TimeMove t t := ⟨.stays, .refl _⟩

theorem TimeMove.of_eq {t u : TimeUnit} (h : u = t) : TimeMove t u := h ▸ TimeMove.refl t

theorem whenRunning_timeMove (f : State → State) (s : State) (h : TimeMove s.time (f s).time) :
    TimeMove s.time (s.whenRunning f).time := by
  unfold State.whenRunning
  split
  · exact h
  all_goals exact .refl _

theorem takeImmediate_timeMove (s : State) (kind : OrderKind) (rule : WorkingCopy → State → Reply)
    (h : ∀ o t, TimeMove t.time (rule o t).1.time) : TimeMove s.time (s.takeImmediate kind rule).time := by
  rcases s.take_cases (some kind) (fun o s => finish o (rule o s)) with ht | ⟨e, rest, -, -, -, ht⟩
  · exact .of_eq (congrArg State.time ht)
  · unfold State.takeImmediate
    rw [ht]
    unfold finish
    rw [State.complete_time]
    exact h (s.copyEntry e) (takenState s e rest)

theorem forSixteen_timeMove (w : Word) (s : State) (k : Fin 16 → Reply) (h : ∀ i, TimeMove s.time (k i).1.time) :
    TimeMove s.time (forSixteen w s k).1.time := by
  rcases forSixteen_cases w s k with hk | ⟨i, hk⟩ <;> rw [hk]
  · exact .refl _
  · exact h i

/-! ### Orders of the time unit (R36, R42 to R45) -/

theorem setTimeRule_timeMove (o : WorkingCopy) (s : State) : TimeMove s.time (setTimeRule o s).1.time := by
  unfold setTimeRule
  dsimp only
  split
  · next h => exact ⟨.loads _ _ _ _ _ _ h, .refl _⟩
  · exact .refl _

theorem rewriteTimer_timeMove (t : TimerNo) (o : TimerOwner) (u : TickUnit) (preset : Nat) (start : Bool) (s : State)
    (h : 1 ≤ preset ∧ preset ≤ 4095) : TimeMove s.time (rewriteTimer t o u preset start s).1.time := by
  unfold rewriteTimer
  split
  · exact .refl _
  · next free =>
    rw [ownerHeld_iff] at free
    refine ⟨.stays, .rewrites t _ ⟨h.1, h.2, h⟩ fun v hv ho => ?_⟩
    by_contra other
    rw [not_or] at other
    exact free ⟨other.1, other.2, v, hv, ho⟩

theorem setTimerRule_timeMove (o : WorkingCopy) (s : State) : TimeMove s.time (setTimerRule o s).1.time := by
  refine forSixteen_timeMove _ s _ fun t => ?_
  split
  · exact .refl _
  · split
    · exact .refl _
    · split
      · exact .refl _
      · next range =>
        have range : 1 ≤ o.num 7 ∧ o.num 7 ≤ 4095 := by omega
        split
        · exact ⟨.stays, .one _ t _ rfl fun h => ⟨range.1, range.2, h.2.2⟩⟩
        · split
          · exact .refl _
          · unfold rewriteChecked
            split
            · exact rewriteTimer_timeMove _ _ _ _ _ s range
            · rcases forScreen_cases (o.arg 5) s _ with hk | hk | ⟨n, -, hk⟩ <;> rw [hk]
              · exact .refl _
              · exact .refl _
              · exact rewriteTimer_timeMove _ _ _ _ _ s range
            · exact rewriteTimer_timeMove _ _ _ _ _ s range
            · exact rewriteTimer_timeMove _ _ _ _ _ s range

theorem stopTimerRule_timeMove (o : WorkingCopy) (s : State) : TimeMove s.time (stopTimerRule o s).1.time :=
  forSixteen_timeMove _ s _ fun t => ⟨.stays, .one _ t _ rfl fun h => h.reload rfl rfl⟩

/-! ### Events of the time unit -/

theorem confirmed_timeMove (t : TimeUnit) : TimeMove t t.confirmed := by
  unfold TimeUnit.confirmed
  split
  · exact .refl _
  · exact ⟨.stays, .refl _⟩

theorem restartConfirm_timeMove (t : TimeUnit) : TimeMove t t.restartConfirm := by
  unfold TimeUnit.restartConfirm
  split
  · exact .refl _
  · exact ⟨.stays, .refl _⟩

theorem crystalFailure_timeMove (s : State) : TimeMove s.time s.crystalFailure.time := by
  unfold State.crystalFailure
  split
  · split
    · exact .refl _
    · exact ⟨.marked, .refl _⟩
    · dsimp only
      split <;> exact ⟨.marked, .refl _⟩
    · exact ⟨.marked, .refl _⟩
  · split
    · exact .refl _
    all_goals exact restartConfirm_timeMove _

theorem crystalConfirmed_timeMove (s : State) : TimeMove s.time s.crystalConfirmed.time := by
  unfold State.crystalConfirmed
  split
  · exact .refl _
  all_goals exact confirmed_timeMove _

theorem confirmRestart_timeMove (s : State) : TimeMove s.time s.confirmRestart.time := by
  unfold State.confirmRestart
  split
  · exact .refl _
  all_goals exact restartConfirm_timeMove _

theorem secondStep_timeMove (s : State) : TimeMove s.time s.secondStep.time := by
  have sent : ∀ (old new : Clock) (t : State), (t.sendSecond old new).time = t.time := by
    intro old new t
    unfold State.sendSecond
    dsimp only
    split
    · split <;> rfl
    · split <;> rfl
  unfold State.secondStep
  split
  · exact .refl _
  · exact ⟨.steps, .refl _⟩
  · exact ⟨.steps, .refl _⟩
  · rw [sent]
    exact ⟨.steps, .refl _⟩

theorem tellOwner_time (o : TimerOwner) (s : State) : (s.tellOwner o).time = s.time := by
  unfold State.tellOwner
  split <;> rfl

theorem stepTimer_timeMove (t : TimerNo) (u : TickUnit) (s : State) : TimeMove s.time (s.stepTimer t u).time := by
  unfold State.stepTimer
  dsimp only
  split
  · split
    · rw [tellOwner_time]
      exact ⟨.stays, .one _ t _ rfl fun h => h.reload rfl rfl⟩
    · exact ⟨.stays, .one _ t _ (tick_owner _ u) fun h => h.tick u⟩
  · exact .refl _

theorem reloadInterval_timeMove (n : ScreenNo) (s : State) : TimeMove s.time (s.reloadInterval n).time := by
  unfold State.reloadInterval
  split
  · exact .refl _
  · next t _ =>
    split
    · exact ⟨.stays, .one _ t _ rfl fun h => h.reload rfl rfl⟩
    · exact .refl _

/-! ### Power and RESET_N (R35, R48) -/

theorem hold_timeMove (s : State) : TimeMove s.time s.hold.time := by
  refine ⟨.stays, .counts _ fun t => ?_⟩
  have timer : sel s.hold.time.timers t = (sel s.time.timers t).fall := sel_tab _ t
  rw [timer]
  exact ⟨rfl, fun h => h.reload rfl rfl⟩

/-- The release of RESET_N leaves the time unit. -/
theorem resetRelease_time (s : State) : s.resetRelease.time = s.time := by
  by_cases hp : s.phase = .held
  · rw [resetRelease_held s hp, (dutyEvent_dutyOnly _ _).downstream.time]
    have swept : (sweptPart s).time = s.time := by rw [sweptPart_frame]
    exact swept
  · rw [resetRelease_idle s hp]

/-! ### Events of the level, tide and alarm units -/

theorem recompute_time (t : Tide) (s : State) : (s.recompute t).time = s.time := by rw [recompute_eq]

theorem alarmEvent_time (s : State) (unit : AlarmUnit) (f : Alarm → AlarmStep) : (s.alarmEvent unit f).time = s.time := by
  rw [alarmEvent_eq]
  rfl

theorem loadTideRule_time (o : WorkingCopy) (s : State) : (loadTideRule o s).1.time = s.time := by
  unfold loadTideRule
  split
  · rfl
  · split
    · rfl
    · split <;> rfl

theorem swapTideRule_time (o : WorkingCopy) (s : State) : (swapTideRule o s).1.time = s.time := by
  unfold swapTideRule
  split
  · rfl
  · exact recompute_time _ s

theorem setAlarmRule_timeMove (o : WorkingCopy) (s : State) : TimeMove s.time (setAlarmRule o s).1.time := by
  refine forSixteen_timeMove _ s _ fun i => ?_
  split
  · exact .refl _
  · dsimp only
    split
    · exact .refl _
    · unfold State.sendActionChangeFrom
      split <;> exact .refl _

theorem takeSwap_timeMove (s : State) : TimeMove s.time s.takeSwap.time := by
  unfold State.takeSwap
  split
  · exact .refl _
  · exact takeImmediate_timeMove s _ _ fun o t => .of_eq (swapTideRule_time o t)

/-- What power, RESET_N and the commands of the time, level, tide and alarm units can do to the time unit. -/
theorem exec_upstream_timeMove (c : Instr) (s : State) (h : isUpstream c = true) :
    ∃ t, exec c s = .next t ∧ TimeMove s.time t.time := by
  cases c
  case powerApplication => exact ⟨_, rfl, .cold, .cold⟩
  case supplyLoss => exact ⟨_, rfl, .refl _⟩
  case coldStartUpCompletion =>
    refine ⟨_, rfl, ?_⟩
    unfold State.startUp
    split
    · split
      · exact hold_timeMove s.delaysBegin
      · exact .refl _
    all_goals exact .refl _
  case resetNFall =>
    refine ⟨_, rfl, ?_⟩
    unfold State.resetFall
    split
    case h_3 => exact hold_timeMove { s with resetLow := true }
    all_goals exact .refl _
  case resetNRelease => exact ⟨_, rfl, .of_eq (resetRelease_time s)⟩
  case crystalConfirmed => exact ⟨_, rfl, crystalConfirmed_timeMove s⟩
  case crystalFailure => exact ⟨_, rfl, crystalFailure_timeMove s⟩
  case confirmPeriodRestart => exact ⟨_, rfl, confirmRestart_timeMove s⟩
  case secondStep => exact ⟨_, rfl, secondStep_timeMove s⟩
  case setTime => exact ⟨_, rfl, takeImmediate_timeMove s _ _ setTimeRule_timeMove⟩
  case setTimer => exact ⟨_, rfl, takeImmediate_timeMove s _ _ setTimerRule_timeMove⟩
  case stopTimer => exact ⟨_, rfl, takeImmediate_timeMove s _ _ stopTimerRule_timeMove⟩
  case unitTick =>
    refine ⟨_, rfl, whenRunning_timeMove _ s ?_⟩
    split
    · exact .refl _
    · refine ⟨.stays, .counts _ fun t => ?_⟩
      rw [sel_tab]
      exact ⟨tick_owner _ _, fun h => h.tick _⟩
  case timerExpiry t =>
    refine ⟨_, rfl, whenRunning_timeMove _ s ?_⟩
    split
    · exact .refl _
    · next u rest _ => exact stepTimer_timeMove t u { s with wires := { s.wires with dueSteps := rest } }
  case intervalRestart n =>
    refine ⟨_, rfl, whenRunning_timeMove _ s ?_⟩
    split
    · exact .refl _
    · next rest _ => exact reloadInterval_timeMove n { s with wires := { s.wires with intervalRestarts := rest } }
  case setChannel =>
    refine ⟨_, rfl, takeImmediate_timeMove s _ _ fun o t => forSixteen_timeMove _ t _ fun n => ?_⟩
    split <;> exact .refl _
  case setSea =>
    refine ⟨_, rfl, takeImmediate_timeMove s _ _ fun o t => ?_⟩
    unfold setSeaRule
    split <;> exact .refl _
  case loadTide => exact ⟨_, rfl, takeImmediate_timeMove s _ _ fun o t => .of_eq (loadTideRule_time o t)⟩
  case swapTide => exact ⟨_, rfl, takeSwap_timeMove s⟩
  case setAlarm => exact ⟨_, rfl, takeImmediate_timeMove s _ _ setAlarmRule_timeMove⟩
  case ackAlarm => exact ⟨_, rfl, takeImmediate_timeMove s _ _ fun _ _ => .refl _⟩
  case scanCompletion =>
    have sent : ∀ t : State, t.sendScan.time = t.time := fun _ => rfl
    exact ⟨_, rfl, whenRunning_timeMove _ s (.of_eq ((sent _).trans (State.setFlagIf_time _ _ _)))⟩
  case minuteEventLevel | timeSetEventLevel =>
    refine ⟨_, rfl, whenRunning_timeMove _ s ?_⟩
    split <;> exact .refl _
  case minuteEventTide | timeSetEventTide | suspectChangeEventTide =>
    refine ⟨_, rfl, whenRunning_timeMove _ s ?_⟩
    split
    · exact .of_eq (recompute_time _ _)
    · exact .refl _
  case minuteEventAlarm | timeSetEventAlarm | suspectChangeEventAlarm =>
    refine ⟨_, rfl, whenRunning_timeMove _ s ?_⟩
    split
    · exact .of_eq (alarmEvent_time _ _ _)
    · exact .refl _
  case editionChangeEvent | seaReport | rateReport =>
    refine ⟨_, rfl, whenRunning_timeMove _ s ?_⟩
    split
    · exact .refl _
    · exact .of_eq (alarmEvent_time _ _ _)
  all_goals cases h

/-- What every command can do to the time unit. -/
theorem exec_timeMove (c : Instr) (s : State) : ∃ t, exec c s = .next t ∧ TimeMove s.time t.time := by
  cases hc : isUpstream c with
  | false =>
    obtain ⟨t, exec, downstream⟩ := exec_downstream c s hc
    exact ⟨t, exec, .of_eq downstream.time⟩
  | true => exact exec_upstream_timeMove c s hc

/-- What every step can do to the time unit, a source cycle included. -/
theorem step_timeMove {s t : State} (h : step s = .next t) : TimeMove s.time t.time := by
  unfold step at h
  split at h
  · cases h
    unfold State.sourceCycle
    split
    · exact .refl _
    all_goals exact ⟨.stays, .refl _⟩
  · next c rest _ =>
    obtain ⟨u, exec, move⟩ := exec_timeMove c { s with pending := rest }
    cases exec.symm.trans h
    exact move

end Sys2Proof

open Sys2Proof Sys2Proof.Machine

/-- Settles O11: what a step can do to the clock keeps it a date, and what it can do to the timers keeps each in range. -/
theorem timeInvKept : Obligations.TimeInvKept :=
  ⟨fun s t h hs => (clockInv_iff t).mpr ((step_timeMove hs).clock.dated ((clockInv_iff s).mp h)),
    fun _ _ h hs => (step_timeMove hs).bank.timerInv h⟩

end


/-!
# The time base and SET_TIME

The crystal's events by phase and base, and the date of SET_TIME by the days since 2000.
-/

section
namespace Sys2Proof

open Sys2Proof.Machine

/-! ## The time base (R28, R29) -/

theorem confirmed_crystal (t : TimeUnit) (h : t.base = .crystal) : t.confirmed = t := if_pos h

theorem confirmed_rc (t : TimeUnit) (h : t.base ≠ .crystal) : t.confirmed = { t with base := .crystal, confirm := 0 } :=
  if_neg h

theorem restartConfirm_crystal (t : TimeUnit) (h : t.base = .crystal) : t.restartConfirm = t := if_pos h

theorem restartConfirm_rc (t : TimeUnit) (h : t.base ≠ .crystal) : t.restartConfirm = { t with confirm := 0 } := if_neg h

section powered
variable (s : State)

theorem crystalConfirmed_powered (h : s.phase ≠ .unpowered) : s.crystalConfirmed = { s with time := s.time.confirmed } := by
  unfold State.crystalConfirmed
  split
  · next off => exact absurd off h
  all_goals rfl

theorem confirmRestart_powered (h : s.phase ≠ .unpowered) : s.confirmRestart = { s with time := s.time.restartConfirm } := by
  unfold State.confirmRestart
  split
  · next off => exact absurd off h
  all_goals rfl

/-- A gap on the RC oscillator restarts the confirm period (R28, R29). -/
theorem crystalFailure_rc (h : s.phase ≠ .unpowered) (hb : s.time.base ≠ .crystal) :
    s.crystalFailure = { s with time := s.time.restartConfirm } := by
  unfold State.crystalFailure
  rw [if_neg hb]
  split
  · next off => exact absurd off h
  all_goals rfl

/-- A crystal failure of a running part (R29, R34). -/
theorem crystalFailure_running (h : s.phase = .running) (hb : s.time.base = .crystal) :
    s.crystalFailure =
      if s.time.clock.suspect then withFlag { s with time := s.time.failed } .timebase
      else (withFlag { s with time := s.time.failed } .timebase).sendSuspectChange := by
  unfold State.crystalFailure
  rw [if_pos hb, h]
  rfl

/-- A crystal failure in the cold start-up sends no event (log 14). -/
theorem crystalFailure_coldStart (h : s.phase = .coldStart) (hb : s.time.base = .crystal) :
    s.crystalFailure = withFlag { s with time := s.time.failed } .timebase := by
  unfold State.crystalFailure
  rw [if_pos hb, h]
  rfl

/-- A crystal failure in the hold is recorded for the release (R35). -/
theorem crystalFailure_held (h : s.phase = .held) (hb : s.time.base = .crystal) :
    s.crystalFailure = { s with time := { s.time.failed with failedInHold := true } } := by
  unfold State.crystalFailure
  rw [if_pos hb, h]

end powered

/-! ## The days since 2000 (02, Converting a date to an instant) -/

/-- The days of whole years, year by year. -/
theorem yearDays_sum (k : Nat) :
    ((List.range k).map fun i => if (2000 + i) % 4 = 0 then 366 else 365).sum = 365 * k + (k + 3) / 4 := by
  induction k with
  | zero => rfl
  | succ k ih =>
    rw [List.range_succ, List.map_append, List.sum_append, ih]
    simp only [List.map_cons, List.map_nil, List.sum_cons, List.sum_nil]
    split <;> omega

/-- The days of whole months, month by month. -/
theorem monthDays_sum (year k : Nat) :
    ((List.range k).map fun i => monthDays year (i + 1)).sum = daysBeforeMonth year (k + 1) := by
  induction k with
  | zero => rfl
  | succ k ih =>
    rw [List.range_succ, List.map_append, List.sum_append, ih, daysBeforeMonth]
    simp [monthLength_eq]

/-- The model's day number counts the days since 2000. -/
theorem daysSince2000_eq (year month day : Nat) : daysSince2000 year month day = dayNumber year month day := by
  unfold daysSince2000 dayNumber daysBeforeYear
  rw [yearDays_sum, monthDays_sum]
  cases month <;> rfl

theorem dateInRange_iff (year month day hour minute second : Nat) :
    dateInRange year month day hour minute second ↔ timeArgsOk year month day hour minute second = true := by
  rw [timeArgsOk_iff, monthLength_eq]
  simp only [dateInRange, and_assoc]

/-- The clock that SET_TIME loads, in the words of R36. -/
theorem loadedClock_eq (year month day hour minute second : Nat) :
    loadedClock year month day hour minute second =
      { year := year, month := month, day := day, weekday := (5 + daysSince2000 year month day) % 7
        hour := hour, minute := minute, second := second
        minuteCount := 1440 * daysSince2000 year month day + 60 * hour + minute, suspect := false } := by
  rw [daysSince2000_eq]
  rfl

/-! ## SET_TIME (R36, R37) -/

section setTime
variable (o : WorkingCopy) (s : State)

theorem setTimeRule_outOfRange (h : ¬timeArgsOk (o.num 3) (o.num 4) (o.num 5) (o.num 6) (o.num 7) (o.num 8) = true) :
    setTimeRule o s = refuse .badArgument s := if_neg h

theorem setTimeRule_inRange (h : timeArgsOk (o.num 3) (o.num 4) (o.num 5) (o.num 6) (o.num 7) (o.num 8) = true) :
    setTimeRule o s =
      let new := loadedClock (o.num 3) (o.num 4) (o.num 5) (o.num 6) (o.num 7) (o.num 8)
      let c := s.time.clock
      reply [word c.minuteCount, word (c.minuteCount / 65536), word (bit c.suspect), word new.weekday]
        ({ s with time := { s.time with clock := new, divider := 0 } }.sendTime
          (.timeSet c.minuteCount new.minuteCount false)) := if_pos h

end setTime

end Sys2Proof

open Sys2Proof Sys2Proof.Machine

/-- Settles O27: the crystal's events by the base they find, and a failure by the phase and the mark. -/
theorem timeBaseEvents : Obligations.TimeBaseEvents := by
  intro s powered
  have confirmed := crystalConfirmed_powered s powered
  have restarted := confirmRestart_powered s powered
  refine ⟨fun rc => ?_, fun crystal => ?_, fun crystal => ⟨fun run marked => ?_, fun run clear => ?_, fun cold => ?_,
    fun held => ?_⟩⟩
  · have gap := crystalFailure_rc s powered rc
    rw [confirmed_rc _ rc] at confirmed
    rw [restartConfirm_rc _ rc] at restarted gap
    exact ⟨congrArg Host.Outcome.next confirmed, congrArg Host.Outcome.next gap, congrArg Host.Outcome.next restarted⟩
  · rw [confirmed_crystal _ crystal] at confirmed
    rw [restartConfirm_crystal _ crystal] at restarted
    exact ⟨congrArg Host.Outcome.next confirmed, congrArg Host.Outcome.next restarted⟩
  · exact congrArg Host.Outcome.next ((crystalFailure_running s run crystal).trans (if_pos marked))
  · exact congrArg Host.Outcome.next ((crystalFailure_running s run crystal).trans (if_neg (by rw [clear]; simp)))
  · exact congrArg Host.Outcome.next (crystalFailure_coldStart s cold crystal)
  · exact congrArg Host.Outcome.next (crystalFailure_held s held crystal)

/-- Settles O29: the range check, then the clock loaded with the days since 2000. -/
theorem setTimeLoadsClock : Obligations.SetTimeLoadsClock := by
  intro s e rest h c days now ok
  have range : ok ↔ timeArgsOk ((s.copyEntry e).num 3) ((s.copyEntry e).num 4) ((s.copyEntry e).num 5)
      ((s.copyEntry e).num 6) ((s.copyEntry e).num 7) ((s.copyEntry e).num 8) = true := by
    simp only [copyEntry_argNum, Nat.reduceLeDiff]
    exact dateInRange_iff ..
  refine ⟨fun bad => ?_, fun good => ?_⟩
  · exact refused_of_rule (fun _ => rfl) rfl h (setTimeRule_outOfRange _ _ fun inside => bad (range.mpr inside))
  · refine ends_of_rule (fun _ => rfl) rfl h ((setTimeRule_inRange _ _ (range.mp good)).trans ?_)
    simp only [copyEntry_argNum, Nat.reduceLeDiff, loadedClock_eq]
    rfl

end


/-!
# The timer bank

SET_TIMER and STOP_TIMER on the timer they name, and the events of the bank: ticks, due steps and interval restarts.
-/

section
namespace Sys2Proof

open Sys2Proof.Machine

/-! ## Codes of the arguments (R198) -/

/-- A yes-or-no argument, where it is one. -/
theorem markOfWord_some (w : Word) (h : w.toNat ≤ 1) : markOfWord w = some (w.toNat == 1) := by
  unfold markOfWord
  rcases (by omega : w.toNat = 0 ∨ w.toNat = 1) with hw | hw <;> rw [hw] <;> rfl

theorem markOfWord_none (w : Word) (h : 1 < w.toNat) : markOfWord w = none := by
  unfold markOfWord
  split
  case h_3 => rfl
  all_goals omega

/-- A word names the unit whose code it holds. -/
theorem tickUnit_ofWord (w : Word) (u : TickUnit) (h : u.code = w.toNat) : TickUnit.ofWord w = some u := by
  unfold TickUnit.ofWord
  rw [← h]
  cases u <;> rfl

theorem tickUnit_none (w : Word) (h : 3 < w.toNat) : TickUnit.ofWord w = none := by
  unfold TickUnit.ofWord
  split
  case h_5 => rfl
  all_goals omega

/-- Every word up to 3 names a unit. -/
theorem tickUnit_exists (w : Word) (h : w.toNat ≤ 3) : ∃ u, TickUnit.ofWord w = some u := by
  rcases (by omega : w.toNat = 0 ∨ w.toNat = 1 ∨ w.toNat = 2 ∨ w.toNat = 3) with hw | hw | hw | hw
  · exact ⟨_, tickUnit_ofWord w .second hw.symm⟩
  · exact ⟨_, tickUnit_ofWord w .minute hw.symm⟩
  · exact ⟨_, tickUnit_ofWord w .quarterHour hw.symm⟩
  · exact ⟨_, tickUnit_ofWord w .hour hw.symm⟩

/-! ## SET_TIMER on the timer it names (R42, R43, R44) -/

/-- What SET_TIMER does once its timer number is checked. -/
def setTimerAt (o : WorkingCopy) (s : State) (t : TimerNo) : Reply :=
  if 3 < o.num 4 then refuse .badArgument s
  else
    match markOfWord (o.arg 8) with
    | none => refuse .badArgument s
    | some start =>
      if o.num 7 < 1 ∨ 4095 < o.num 7 then refuse .badArgument s
      else if (s.timer t).running && !start then
        reply [word (s.timer t).count, word (s.timer t).expiries] (s.setTimer t { s.timer t with preset := o.num 7 })
      else
        match TickUnit.ofWord (o.arg 6) with
        | none => refuse .badArgument s
        | some u => rewriteChecked o t u start s

/-- The ranges that every SET_TIMER is held to: the kind of owner, the start mark, the preset (R42). -/
def TimerArgsOk (o : WorkingCopy) : Prop := o.num 4 ≤ 3 ∧ o.num 8 ≤ 1 ∧ 1 ≤ o.num 7 ∧ o.num 7 ≤ 4095

/-- The preset of a running timer alone is to change: start is 0 (R44). -/
def PresetOnly (o : WorkingCopy) (x : Timer) : Prop := x.running = true ∧ o.num 8 = 0

theorem setTimerRule_eq (o : WorkingCopy) (s : State) : setTimerRule o s = forSixteen (o.arg 3) s (setTimerAt o s) := rfl

section setTimer
variable (o : WorkingCopy) (s : State) (t : TimerNo)

theorem setTimerAt_outOfRange (h : ¬TimerArgsOk o) : setTimerAt o s t = refuse .badArgument s := by
  unfold TimerArgsOk at h
  unfold setTimerAt
  by_cases kind : 3 < o.num 4
  · rw [if_pos kind]
  rw [if_neg kind]
  by_cases mark : o.num 8 ≤ 1
  · have preset : o.num 7 < 1 ∨ 4095 < o.num 7 := by omega
    rw [markOfWord_some _ mark]
    exact if_pos preset
  · rw [markOfWord_none _ (Nat.lt_of_not_le mark)]

/-- With the ranges met, the start mark is read and the preset-only rule decides. -/
theorem setTimerAt_inRange (h : TimerArgsOk o) :
    setTimerAt o s t =
      if (s.timer t).running && !(o.num 8 == 1) then
        reply [word (s.timer t).count, word (s.timer t).expiries] (s.setTimer t { s.timer t with preset := o.num 7 })
      else
        match TickUnit.ofWord (o.arg 6) with
        | none => refuse .badArgument s
        | some u => rewriteChecked o t u (o.num 8 == 1) s := by
  obtain ⟨kind, mark, low, high⟩ := h
  unfold setTimerAt
  rw [if_neg (by omega), markOfWord_some _ mark]
  exact if_neg (by omega)

/-- The condition of the preset-only rule, as the rule reads it. -/
theorem presetOnly_iff (x : Timer) (h : TimerArgsOk o) : (x.running && !(o.num 8 == 1)) = true ↔ PresetOnly o x := by
  obtain ⟨-, mark, -, -⟩ := h
  rw [Bool.and_eq_true, Bool.not_eq_true', beq_eq_false_iff_ne]
  exact and_congr_right fun _ => by omega

variable {o s t}

/-- The preset of a running timer alone (R44). -/
theorem setTimerAt_presetOnly (h : TimerArgsOk o) (hp : PresetOnly o (s.timer t)) :
    setTimerAt o s t =
      reply [word (s.timer t).count, word (s.timer t).expiries] (s.setTimer t { s.timer t with preset := o.num 7 }) := by
  rw [setTimerAt_inRange o s t h]
  exact if_pos ((presetOnly_iff o _ h).mpr hp)

/-- A rewrite whose word names no unit. -/
theorem setTimerAt_noUnit (h : TimerArgsOk o) (hp : ¬PresetOnly o (s.timer t)) (hu : 3 < o.num 6) :
    setTimerAt o s t = refuse .badArgument s := by
  rw [setTimerAt_inRange o s t h, if_neg fun only => hp ((presetOnly_iff o _ h).mp only), tickUnit_none _ hu]

/-- A rewrite in the unit that its word names. -/
theorem setTimerAt_rewrites (h : TimerArgsOk o) (hp : ¬PresetOnly o (s.timer t)) {u : TickUnit}
    (hu : TickUnit.ofWord (o.arg 6) = some u) : setTimerAt o s t = rewriteChecked o t u (o.num 8 == 1) s := by
  rw [setTimerAt_inRange o s t h, if_neg fun only => hp ((presetOnly_iff o _ h).mp only), hu]

/-- A rewrite for a screen that the common checks refuse (R12). -/
theorem setTimerAt_screenRefused (h : TimerArgsOk o) (hp : ¬PresetOnly o (s.timer t)) (hu : o.num 6 ≤ 3)
    (screen : o.num 4 = 1) {r : OrderResult} (hr : screenArg (o.arg 5) s = .error r) :
    setTimerAt o s t = refuse r s := by
  obtain ⟨u, hu⟩ := tickUnit_exists (o.arg 6) hu
  rw [setTimerAt_rewrites h hp hu]
  unfold rewriteChecked
  rw [screen]
  exact forScreen_of_screenArg _ s _ r hr

/-- A rewrite to an owner and a unit that the arguments name. -/
theorem setTimerAt_named (h : TimerArgsOk o) (hp : ¬PresetOnly o (s.timer t)) {u : TickUnit} {w : TimerOwner}
    (hu : u.code = o.num 6) (hw : w.code = o.num 4)
    (hs : ∀ n, w = .screen n → o.num 5 = n.1 ∧ s.screenFitted n = true) :
    setTimerAt o s t = rewriteTimer t w u (o.num 7) (o.num 8 == 1) s := by
  rw [setTimerAt_rewrites h hp (tickUnit_ofWord _ u hu)]
  unfold rewriteChecked
  rw [← hw]
  cases w with
  | screen n =>
    obtain ⟨number, fitted⟩ := hs n rfl
    have lt : (o.arg 5).toNat < 6 := number.trans_lt n.2
    have same : (⟨(o.arg 5).toNat, lt⟩ : ScreenNo) = n := Fin.ext number
    exact (forScreen_fitted _ s _ lt (same ▸ fitted)).trans (by rw [same])
  | none => rfl
  | rotation => rfl
  | report => rfl

variable (s t)

/-- A rewrite to an owner that another timer has (R42). -/
theorem rewriteTimer_busy (w : TimerOwner) (u : TickUnit) (preset : Nat) (start : Bool)
    (h : w ≠ .none ∧ w ≠ .report ∧ ∃ v, v ≠ t ∧ (s.timer v).owner = w) :
    rewriteTimer t w u preset start s = refuse .busy s := if_pos ((ownerHeld_iff s t w).mpr h)

/-- The whole record rewritten (R43). -/
theorem rewriteTimer_free (w : TimerOwner) (u : TickUnit) (preset : Nat) (start : Bool)
    (h : ¬(w ≠ .none ∧ w ≠ .report ∧ ∃ v, v ≠ t ∧ (s.timer v).owner = w)) :
    rewriteTimer t w u preset start s =
      reply [word (s.timer t).count, word (s.timer t).expiries]
        (s.setTimer t { owner := w, unit := u, preset := preset, count := preset, running := start, expiries := 0 }) :=
  if_neg fun held => h ((ownerHeld_iff s t w).mp held)

end setTimer

/-- SET_TIMER at its take, on the timer that its first argument names. -/
theorem setTimerRule_atHead (s : State) (e : Entry) (rest : List Entry) (t : TimerNo) (h : argNum s e 3 = t.1) :
    setTimerRule (s.copyEntry e) (takenState s e rest) = setTimerAt (s.copyEntry e) (takenState s e rest) t := by
  rw [setTimerRule_eq]
  exact forSixteen_atHead s e rest t _ h

/-! ## Events of the bank (R38, R40, R46, log 9) -/

theorem takes_iff (x : Timer) (u : TickUnit) : x.takes u = true ↔ x.running = true ∧ x.unit = u := by simp [Timer.takes]

/-- A tick at a timer, in the words of R38. -/
theorem tick_eq (x : Timer) (u : TickUnit) :
    x.tick u = if x.running = true ∧ x.unit = u ∧ 1 < x.count then { x with count := x.count - 1 } else x := by
  unfold Timer.tick
  refine if_congr ?_ rfl rfl
  rw [Bool.and_eq_true, takes_iff, decide_eq_true_eq, and_assoc]

/-- Where no count is below 1, the timers that a tick expires are those at 1. -/
theorem expiring_eq (s : State) (u : TickUnit) (h : ∀ t, 1 ≤ (s.timer t).count) :
    s.expiring u = indices fun t => (s.timer t).running && (s.timer t).unit == u && (s.timer t).count == 1 := by
  refine congrArg indices (funext fun t => congrArg _ ?_)
  have := h t
  rw [Bool.eq_iff_iff, decide_eq_true_eq, beq_iff_eq]
  omega

theorem unitTick_head (s : State) (u : TickUnit) (rest : List TickUnit) (h : s.phase = .running)
    (hw : s.wires.ticks = u :: rest) :
    s.unitTick =
      { s with
        time := { s.time with timers := tab fun t => (s.timer t).tick u }
        wires := { s.wires with
          ticks := rest, dueSteps := s.wires.dueSteps ++ (s.expiring u).map fun t => (t, u) } } := by
  unfold State.unitTick
  rw [s.whenRunning_running _ h, hw]

/-- A due step finds its timer stopped or of another unit (R47). -/
theorem stepTimer_idle (s : State) (t : TimerNo) (u : TickUnit) (h : ¬((s.timer t).running = true ∧ (s.timer t).unit = u)) :
    s.stepTimer t u = s := if_neg fun takes => h ((takes_iff _ _).mp takes)

/-- A due step finds a count above 1 (R47). -/
theorem stepTimer_above (s : State) (t : TimerNo) (u : TickUnit) (h : (s.timer t).running = true ∧ (s.timer t).unit = u)
    (hc : 1 < (s.timer t).count) :
    s.stepTimer t u = s.setTimer t { s.timer t with count := (s.timer t).count - 1 } := by
  refine (if_pos ((takes_iff _ _).mpr h)).trans ((if_neg (Nat.not_le_of_lt hc)).trans ?_)
  rw [tick_eq, if_pos ⟨h.1, h.2, hc⟩]

/-- A due step at a count of 1 is an expiry, told to the owner (R38, R40). -/
theorem stepTimer_expires (s : State) (t : TimerNo) (u : TickUnit) (h : (s.timer t).running = true ∧ (s.timer t).unit = u)
    (hc : (s.timer t).count = 1) :
    s.stepTimer t u = (s.setTimer t (s.timer t).expire).tellOwner (s.timer t).owner :=
  (if_pos ((takes_iff _ _).mpr h)).trans (if_pos (Nat.le_of_eq hc))

/-- The oldest due step of a timer is the one that its expiry takes. -/
theorem timerExpiry_first (s : State) (t : TimerNo) (u : TickUnit) (pre post : List (TimerNo × TickUnit))
    (h : s.phase = .running) (hw : s.wires.dueSteps = pre ++ (t, u) :: post) (hp : ∀ d ∈ pre, d.1 ≠ t) :
    s.timerExpiry t = (withWires s { s.wires with dueSteps := pre ++ post }).stepTimer t u := by
  have first : takeFirst (fun d : TimerNo × TickUnit => d.1 == t) s.wires.dueSteps = some ((t, u), pre ++ post) := by
    rw [hw]
    exact takeFirst_append _ pre (t, u) post (by simp) fun d hd => by simpa using hp d hd
  unfold State.timerExpiry
  rw [s.whenRunning_running _ h, first]
  rfl

/-- The timer of a screen, where one has it as owner (R41). -/
theorem timerOfScreen_owner (s : State) (n : ScreenNo) (t : TimerNo) (h : TimerInv s) (ho : (s.timer t).owner = .screen n) :
    s.timerOfScreen n = some t := by
  have mine : t ∈ indices fun v => (s.timer v).owner == .screen n := (mem_indices _ t).mpr (beq_iff_eq.mpr ho)
  have only : ∀ v ∈ indices (fun v => (s.timer v).owner == .screen n), v = t := by
    intro v hv
    have hv : (s.timer v).owner = .screen n := beq_iff_eq.mp ((mem_indices _ v).mp hv)
    by_contra hne
    obtain ⟨-, alone⟩ := h
    rcases alone v t hne (hv.trans ho.symm) with none | report
    · cases hv.symm.trans none
    · cases hv.symm.trans report
  unfold State.timerOfScreen
  generalize (indices fun v => (s.timer v).owner == .screen n) = l at mine only
  cases l with
  | nil => cases mine
  | cons v l => exact congrArg some (only v (by simp))

/-- A timer found for a screen has it as owner. -/
theorem timerOfScreen_some (s : State) (n : ScreenNo) (t : TimerNo) (h : s.timerOfScreen n = some t) :
    (s.timer t).owner = .screen n := by
  unfold State.timerOfScreen at h
  exact beq_iff_eq.mp ((mem_indices (fun v => (s.timer v).owner == .screen n) t).mp (List.mem_of_mem_head? h))

theorem reloadInterval_running (s : State) (n : ScreenNo) (t : TimerNo) (h : TimerInv s)
    (ho : (s.timer t).owner = .screen n) (hr : (s.timer t).running = true) :
    s.reloadInterval n = s.setTimer t { s.timer t with count := (s.timer t).preset } := by
  unfold State.reloadInterval
  rw [timerOfScreen_owner s n t h ho]
  exact if_pos hr

theorem reloadInterval_stopped (s : State) (n : ScreenNo)
    (h : ∀ t, (s.timer t).owner = .screen n → (s.timer t).running = false) : s.reloadInterval n = s := by
  unfold State.reloadInterval
  split
  · rfl
  · next t ht =>
    have stopped := h t (timerOfScreen_some s n t ht)
    exact if_neg (by rw [stopped]; simp)

/-- The oldest interval restart of a screen is the one that reaches the bank. -/
theorem intervalRestart_first (s : State) (n : ScreenNo) (pre post : List ScreenNo) (h : s.phase = .running)
    (hw : s.wires.intervalRestarts = pre ++ n :: post) (hp : n ∉ pre) :
    s.intervalRestart n = (withWires s { s.wires with intervalRestarts := pre ++ post }).reloadInterval n := by
  have first : takeFirst (fun m => m == n) s.wires.intervalRestarts = some (n, pre ++ post) := by
    rw [hw]
    refine takeFirst_append _ pre n post (by simp) fun m hm => ?_
    exact beq_eq_false_iff_ne.mpr fun he => hp (he ▸ hm)
  unfold State.intervalRestart
  rw [s.whenRunning_running _ h, first]
  rfl

end Sys2Proof

open Sys2Proof Sys2Proof.Machine

/-- Settles O30: the ranges, then the preset alone, or the rewrite by its unit, its owner and the other timers. -/
theorem setTimerRewritesOrChangesPreset : Obligations.SetTimerRewritesOrChangesPreset := by
  intro s e rest t h h3 x answers inRange presetOnly
  have rule := setTimerRule_atHead s e rest t h3
  have num4 : (s.copyEntry e).num 4 = argNum s e 4 := copyEntry_argNum s e 4 (by omega) (by omega)
  have num5 : (s.copyEntry e).num 5 = argNum s e 5 := copyEntry_argNum s e 5 (by omega) (by omega)
  have num6 : (s.copyEntry e).num 6 = argNum s e 6 := copyEntry_argNum s e 6 (by omega) (by omega)
  have num7 : (s.copyEntry e).num 7 = argNum s e 7 := copyEntry_argNum s e 7 (by omega) (by omega)
  have num8 : (s.copyEntry e).num 8 = argNum s e 8 := copyEntry_argNum s e 8 (by omega) (by omega)
  have range : TimerArgsOk (s.copyEntry e) ↔ inRange := by
    unfold TimerArgsOk
    rw [num4, num7, num8]
  have alone : PresetOnly (s.copyEntry e) ((takenState s e rest).timer t) ↔ presetOnly := by
    unfold PresetOnly
    rw [num8]
    rfl
  have refused : ∀ r, setTimerAt (s.copyEntry e) (takenState s e rest) t = refuse r (takenState s e rest) →
      Refused .setTimer s e rest r := fun r hr => refused_of_rule (fun _ => rfl) rfl h (rule.trans hr)
  have ends : ∀ y, setTimerAt (s.copyEntry e) (takenState s e rest) t =
        reply answers ((takenState s e rest).setTimer t y) →
      Ends .setTimer s e .ok answers ((takenState s e rest).setTimer t y) :=
    fun y hr => ends_of_rule (fun _ => rfl) rfl h (rule.trans hr)
  refine ⟨fun outside => ?_, fun inside only => ?_, fun inside whole unit => ?_, fun inside whole unit screen above => ?_,
    fun inside whole unit screen low unfitted => ?_, fun o u inside whole unit owner named => ?_⟩
  · exact refused _ (setTimerAt_outOfRange _ _ t fun ok => outside (range.mp ok))
  · have replied := setTimerAt_presetOnly (range.mpr inside) (alone.mpr only)
    rw [num7] at replied
    exact ends _ replied
  · exact refused _ (setTimerAt_noUnit (range.mpr inside) (whole ∘ alone.mp) (num6 ▸ unit))
  · exact refused _ (setTimerAt_screenRefused (range.mpr inside) (whole ∘ alone.mp) (num6 ▸ unit) (num4.trans screen)
      (screenArg_above _ _ (above.trans_eq num5.symm)))
  · exact refused _ (setTimerAt_screenRefused (range.mpr inside) (whole ∘ alone.mp) (num6 ▸ unit) (num4.trans screen)
      (screenArg_unfitted _ _ (num5.trans_le low) (unfitted.trans_eq num5.symm)))
  · have rewrite := setTimerAt_named (range.mpr inside) (whole ∘ alone.mp) (unit.trans num6.symm) (owner.trans num4.symm)
      (num5 ▸ named)
    rw [num7, num8] at rewrite
    exact ⟨fun held => refused _ (rewrite.trans (rewriteTimer_busy _ t o u _ _ held)),
      fun free => ends _ (rewrite.trans (rewriteTimer_free _ t o u _ _ free))⟩

/-- Settles O31: the timer number's check, then the timer stopped and reloaded, which leaves a timer that stands so. -/
theorem stopTimerReloadsCount : Obligations.StopTimerReloadsCount := by
  intro s e rest h
  refine ⟨sixteenOrder_refused (by simp [sixteenOrders]) s e rest h, fun t h3 => ?_⟩
  have ends : Ends .stopTimer s e .ok [word (s.timer t).count, word (s.timer t).expiries]
      ((takenState s e rest).setTimer t { s.timer t with running := false, count := (s.timer t).preset }) :=
    ends_of_rule (fun _ => rfl) rfl h (forSixteen_atHead s e rest t _ h3)
  refine ⟨ends, fun stopped reloaded => ?_⟩
  have same : { s.timer t with running := false, count := (s.timer t).preset } = s.timer t := by
    rw [← stopped, ← reloaded]
  have bank : (takenState s e rest).setTimer t (s.timer t) = takenState s e rest :=
    congrArg (fun v => ({ takenState s e rest with time := { s.time with timers := v } } : State)) (upd_sel s.time.timers t)
  rw [same, bank] at ends
  exact ends

/-- Settles O32: the tick timer by timer, the due step by the timer it finds, and the restart of the screen's one timer. -/
theorem timerBankEvents : Obligations.TimerBankEvents := by
  intro s run inv
  refine ⟨fun u rest hw => ?_, fun t u pre post hw hp => ?_, fun n pre post hw hp => ?_⟩
  · have counts : ∀ t, 1 ≤ (s.timer t).count := fun t => (inv.1 t).2.2.1
    refine congrArg Host.Outcome.next ((unitTick_head s u rest run hw).trans ?_)
    rw [expiring_eq s u counts]
    simp only [tick_eq]
  · intro x rest bank
    have step := timerExpiry_first s t u pre post run hw hp
    refine ⟨fun idle => ?_, fun running unit above => ?_, fun running unit last => ?_⟩
    · exact congrArg Host.Outcome.next (step.trans (stepTimer_idle (withWires s rest) t u idle))
    · exact congrArg Host.Outcome.next (step.trans (stepTimer_above (withWires s rest) t u ⟨running, unit⟩ above))
    · have expiry := step.trans (stepTimer_expires (withWires s rest) t u ⟨running, unit⟩ last)
      have told : ∀ o, x.owner = o → exec (.timerExpiry t) s =
          .next (({ s with wires := rest, time := bank } : State).tellOwner o) := fun o ho =>
        congrArg Host.Outcome.next (ho ▸ expiry)
      exact ⟨told .none, fun n => told (.screen n), told .rotation, told .report⟩
  · intro rest
    have restart := intervalRestart_first s n pre post run hw hp
    refine ⟨fun t ho hr => ?_, fun stopped => ?_⟩
    · exact congrArg Host.Outcome.next (restart.trans (reloadInterval_running (withWires s rest) n t inv ho hr))
    · exact congrArg Host.Outcome.next (restart.trans (reloadInterval_stopped (withWires s rest) n stopped))

end

/-!
# The level board

A scan completion in closed form, channel by channel and gauge by gauge; the minute history; SET_CHANNEL and SET_SEA.
-/

section
namespace Sys2Proof

open Sys2Proof.Machine

/-! ## A scan completion, whole (R49, R59, R62 to R64) -/

/-- The level unit after the scan that the state is about to make (R49, R57). -/
def scannedLevel (s : State) (codes : Vector RawCode 16) : Level := s.level.scan codes s.tide.valid s.tide.level

/-- The messages on their way once the reports of a scan are sent, with the level unit as the scan leaves it (R62 to R64). -/
def scanReports (s : State) (l : Level) : Wires :=
  { s.wires with
    seaReports := s.wires.seaReports ++ [(l.seaValue, l.seaQuality)]
    diffReports := s.wires.diffReports ++ [(indices s.screenFitted).map fun n => (n, l.differential n)]
    wToPump := s.wires.wToPump ++ [(sel l.channels 14).measure]
    wToDuty := s.wires.wToDuty ++ [(sel l.channels 14).measure]
    hReports := s.wires.hReports ++ [(sel l.channels 15).measure] }

/-- SUMMARY after a scan: SEA at a change of sea quality (R59). -/
def scanPort (s : State) (l : Level) : Port := flaggedIf (l.seaQuality != s.level.seaQuality) .sea s.port

theorem scanCompletion_running (s : State) (codes : Vector RawCode 16) (h : s.phase = .running) :
    s.scanCompletion codes =
      { s with
        level := scannedLevel s codes
        port := scanPort s (scannedLevel s codes)
        wires := scanReports s (scannedLevel s codes) } := by
  unfold State.scanCompletion
  rw [s.whenRunning_running _ h]
  dsimp only
  unfold scanPort flaggedIf scannedLevel
  cases (s.level.scan codes s.tide.valid s.tide.level).seaQuality != s.level.seaQuality <;> rfl

theorem scannedLevel_channel (s : State) (codes : Vector RawCode 16) (n : Fin 16) :
    sel (scannedLevel s codes).channels n = (sel s.level.channels n).scan n (!s.level.scanned) (sel codes n) := sel_tab _ n

/-! ## A channel at a scan (R50 to R53) -/

theorem clamp_eq (lo hi x : Int) (h : lo ≤ hi) : clamp lo hi x = max lo (min hi x) := by
  unfold clamp
  split
  · omega
  · split <;> omega

theorem clamp16_eq (x : Int) : clamp16 x = max (-32768) (min 32767 x) := clamp_eq _ _ x (by decide)

/-- The value of a full filter in the words of R51. -/
theorem scaled_eq (n : Fin 16) (c : Channel) (filter : List Nat) :
    c.scaled n filter =
      if n = 15 then max 0 (min 2000 (scaledValue c filter)) else max (-32768) (min 32767 (scaledValue c filter)) := by
  show (if n = channelH then clamp 0 2000 (scaledValue c filter) else clamp16 (scaledValue c filter)) = _
  rw [clamp16_eq, clamp_eq 0 2000 _ (by decide)]
  rfl

/-- The table of R50 at a configured channel, before its run length and the stuck check. -/
theorem classed_eq (n : Fin 16) (code : Nat) (same : Bool) (c : Channel) (h : c.quality ≠ .unconfigured) :
    c.classed n code same =
      { c with
        quality := (sampleOutcome c code same).1, filter := (sampleOutcome c code same).2
        value :=
          if (sampleOutcome c code same).1 = .good then c.scaled n (sampleOutcome c code same).2 else c.value } := by
  unfold Channel.classed Channel.sample sampleOutcome
  by_cases low : code < c.faultLow
  · simp only [if_pos low]
    rfl
  simp only [if_neg low]
  by_cases high : c.faultHigh < code
  · simp only [if_pos high]
    rfl
  simp only [if_neg high]
  unfold Channel.accept
  cases hq : c.quality
  case unconfigured => exact absurd hq h
  case filling =>
    dsimp only
    unfold Channel.fill
    rw [List.length_append, List.length_singleton]
    by_cases four : c.filter.length + 1 = 4
    · simp only [if_pos four]
      rfl
    · simp only [if_neg four, ← hq]
      rw [if_neg (by rw [hq]; simp)]
  case good =>
    dsimp only
    rw [List.drop_one, if_pos rfl, ← hq]
    rfl
  case stuck =>
    cases same
    · rfl
    · simp only [if_true, ← hq]
      rw [if_neg (by rw [hq]; simp)]
  all_goals rfl

/-- An UNCONFIGURED channel records its code and does nothing more (R50). -/
theorem scan_unconfigured (n : Fin 16) (first : Bool) (code : RawCode) {c : Channel} (h : c.quality = .unconfigured) :
    c.scan n first code = { c with lastRaw := code.toNat } := if_pos h

/-- A configured channel after a scan, before its stuck check: code, run length, and what the table of R50 gives. -/
def sampled (n : Fin 16) (same : Bool) (code : Nat) (c : Channel) : Channel :=
  { c with
    lastRaw := code, runLength := c.nextRun same
    quality := (sampleOutcome c code same).1, filter := (sampleOutcome c code same).2
    value := if (sampleOutcome c code same).1 = .good then c.scaled n (sampleOutcome c code same).2 else c.value }

theorem scan_configured (n : Fin 16) (first : Bool) (code : RawCode) {c : Channel} (h : c.quality ≠ .unconfigured) :
    c.scan n first code = (sampled n (!first && code.toNat == c.lastRaw) code.toNat c).stuckCheck := by
  unfold Channel.scan
  rw [if_neg h]
  dsimp only
  rw [classed_eq _ _ _ _ h]
  rfl

/-- What the stuck check finds a stuck channel by (R53). -/
def IsStuck (c : Channel) : Prop :=
  c.stuckWindow ≠ 0 ∧ 120 * c.stuckWindow ≤ c.runLength ∧ (c.quality = .filling ∨ c.quality = .good)

theorem stuckCheck_stuck {c : Channel} (h : IsStuck c) : c.stuckCheck = { c with quality := .stuck, filter := [] } := if_pos h

theorem stuckCheck_moving {c : Channel} (h : ¬IsStuck c) : c.stuckCheck = c := if_neg h

/-! ## The sea record by the gauges (R57, R58) -/

section sea
variable (g0 g1 : Channel) (band : Nat) (valid : Bool) (p held : Int)

theorem deriveSea_agree (h0 : g0.quality = .good) (h1 : g1.quality = .good) (h : (g0.value - g1.value).natAbs ≤ band) :
    deriveSea g0 g1 band valid p held =
      { value := Int.fdiv (g0.value + g1.value) 2, quality := .good, gauge := .mean } := by
  unfold deriveSea
  rw [if_pos h0, if_pos h1, if_pos h, Int.fdiv_eq_ediv_of_nonneg _ (by decide)]

theorem deriveSea_apart (h0 : g0.quality = .good) (h1 : g1.quality = .good) (h : band < (g0.value - g1.value).natAbs) :
    deriveSea g0 g1 band valid p held = arbitrate valid p g0.value g1.value := by
  unfold deriveSea
  rw [if_pos h0, if_pos h1, if_neg (by omega)]

theorem deriveSea_first (h0 : g0.quality = .good) (h1 : g1.quality ≠ .good) :
    deriveSea g0 g1 band valid p held = { value := g0.value, quality := .single, gauge := .g0 } := by
  unfold deriveSea
  rw [if_pos h0, if_neg h1]

theorem deriveSea_second (h1 : g1.quality = .good) (h0 : g0.quality ≠ .good) :
    deriveSea g0 g1 band valid p held = { value := g1.value, quality := .single, gauge := .g1 } := by
  unfold deriveSea
  rw [if_neg h0, if_pos h1]

theorem deriveSea_lost (h0 : g0.quality ≠ .good) (h1 : g1.quality ≠ .good) :
    deriveSea g0 g1 band valid p held = { value := held, quality := .lost, gauge := .held } := by
  unfold deriveSea
  rw [if_neg h0, if_neg h1]

/-- Two gauges that disagree while the prediction stands: the nearer to it, G0 where both are as near. -/
theorem arbitrate_predicted (v0 v1 : Int) :
    arbitrate true p v0 v1 =
      { value := if (v1 - p).natAbs < (v0 - p).natAbs then v1 else v0, quality := .disagree
        gauge := if (v1 - p).natAbs < (v0 - p).natAbs then .g1 else .g0 } := by
  unfold arbitrate
  by_cases nearer : (v1 - p).natAbs < (v0 - p).natAbs <;> simp [nearer]

theorem arbitrate_unpredicted (v0 v1 : Int) :
    arbitrate false p v0 v1 = { value := v0, quality := .disagree, gauge := .g0 } := rfl

end sea

/-- The sea record that the level unit holds after a scan. -/
theorem scannedLevel_sea (s : State) (codes : Vector RawCode 16) {x : SeaReading}
    (h : deriveSea (sel (scannedLevel s codes).channels 0) (sel (scannedLevel s codes).channels 1) s.level.band s.tide.valid
      s.tide.level s.level.seaValue = x) :
    (scannedLevel s codes).seaValue = x.value ∧ (scannedLevel s codes).seaQuality = x.quality ∧
      (scannedLevel s codes).gauge = x.gauge := h ▸ ⟨rfl, rfl, rfl⟩

/-- The differential of a screen in the words of R62. -/
theorem differential_eq (l : Level) (n : ScreenNo) :
    l.differential n =
      { value := max (-32768) (min 32767
          ((sel l.channels ⟨2 + n.1, by omega⟩).value - (sel l.channels ⟨8 + n.1, by omega⟩).value))
        valid := (sel l.channels ⟨2 + n.1, by omega⟩).quality == .good &&
          (sel l.channels ⟨8 + n.1, by omega⟩).quality == .good } := by
  unfold Level.differential
  dsimp only
  rw [clamp16_eq]
  rfl

/-! ## The minute history (R65, R66, R67) -/

/-- The history after an append, in the words of R65. -/
theorem append_history (l : Level) :
    l.append.history =
      if l.history.length < 11 then l.history ++ [(l.seaValue, l.seaQuality)]
      else l.history.drop 1 ++ [(l.seaValue, l.seaQuality)] := by
  unfold Level.append historyLength
  dsimp only
  rw [List.drop_one]
  by_cases full : l.history.length < 11
  · rw [if_neg (by omega), if_pos full]
  · rw [if_pos (by omega), if_neg full]

theorem rateValid_iff (h : List (Int × SeaQuality)) :
    rateValid h = true ↔ h.length = 11 ∧ ∀ x ∈ h, x.2 ≠ .lost := by
  unfold rateValid historyLength
  rw [Bool.and_eq_true, beq_iff_eq, List.all_eq_true]
  simp only [bne_iff_ne]

/-- A short history, or one with a LOST entry, gives an invalid rate (R66). -/
theorem rate_invalid {h : List (Int × SeaQuality)} (hi : h.length ≠ 11 ∨ ∃ x ∈ h, x.2 = .lost) :
    rateOf h = 0 ∧ rateValid h = false := by
  have invalid : rateValid h = false := by
    refine Bool.eq_false_iff.mpr fun valid => ?_
    obtain ⟨full, known⟩ := (rateValid_iff h).mp valid
    rcases hi with short | ⟨x, hx, lost⟩
    · exact short full
    · exact known x hx lost
  refine ⟨?_, invalid⟩
  unfold rateOf
  rw [invalid]
  rfl

/-- A full history of known entries gives its newest value less its oldest (R66). -/
theorem rate_valid {h : List (Int × SeaQuality)} {oldest newest : Int × SeaQuality} (full : h.length = 11)
    (known : ∀ x ∈ h, x.2 ≠ .lost) (first : h.head? = some oldest) (last : h.getLast? = some newest) :
    rateOf h = max (-32768) (min 32767 (newest.1 - oldest.1)) ∧ rateValid h = true := by
  have valid := (rateValid_iff h).mpr ⟨full, known⟩
  refine ⟨?_, valid⟩
  unfold rateOf
  rw [if_pos valid, first, last]
  exact clamp16_eq _

/-- The newest entry after an append is the sea record. -/
theorem append_last (l : Level) : l.append.history.getLast? = some (l.seaValue, l.seaQuality) := by
  rw [append_history]
  split <;> exact List.getLast?_concat ..

theorem minuteEventLevel_head (s : State) (m : MinuteEvent) (rest : List TimeEvent) (h : s.phase = .running)
    (hw : s.wires.toLevel = .minute m :: rest) :
    s.minuteEventLevel =
      { s with
        level := s.level.append
        wires := { s.wires with
          toLevel := rest
          rateReports := s.wires.rateReports ++ [(rateOf s.level.append.history, rateValid s.level.append.history)] } } := by
  unfold State.minuteEventLevel
  rw [s.whenRunning_running _ h, hw]
  rfl

/-! ## SET_CHANNEL and SET_SEA (R54, R55, R60) -/

/-- The checks of R54 as the rule makes them. -/
theorem channelArgsOk_iff (n : Fin 16) (o : WorkingCopy) :
    channelArgsOk n o = true ↔
      o.num 4 < o.num 5 ∧ o.num 5 ≤ 4095 ∧ o.arg 6 ≠ o.arg 7 ∧ (n = 15 → o.num 6 ≤ 2000 ∧ o.num 7 ≤ 2000) ∧
        o.num 8 < o.num 9 ∧ o.num 9 ≤ 4095 ∧ o.num 10 ≤ 255 := by
  have pressure : (n != channelH || (o.num 6 ≤ 2000 && o.num 7 ≤ 2000)) = true ↔
      (n = 15 → o.num 6 ≤ 2000 ∧ o.num 7 ≤ 2000) := by
    rw [Bool.or_eq_true, bne_iff_ne, Bool.and_eq_true, decide_eq_true_eq, decide_eq_true_eq]
    exact Decidable.imp_iff_not_or.symm
  unfold channelArgsOk
  simp only [Bool.and_eq_true, pressure, decide_eq_true_eq, bne_iff_ne]
  constructor
  · rintro ⟨⟨⟨⟨⟨⟨⟨⟨-, raw5⟩, raw⟩, eng⟩, unit⟩, -⟩, fault9⟩, fault⟩, window⟩
    exact ⟨raw, raw5, eng, unit, fault, fault9, window⟩
  · rintro ⟨raw, raw5, eng, unit, fault, fault9, window⟩
    exact ⟨⟨⟨⟨⟨⟨⟨⟨by omega, raw5⟩, raw⟩, eng⟩, unit⟩, by omega⟩, fault9⟩, fault⟩, window⟩

end Sys2Proof

open Sys2Proof Sys2Proof.Machine

/-- Settles O33: the checks of R54 and the band of R60, then the record stored. -/
theorem setChannelAndSetSea : Obligations.SetChannelAndSetSea := by
  refine ⟨fun s e rest n h h3 => ?_, fun s e rest h => ?_⟩
  · intro c ok
    have rule := fun k => forSixteen_atHead s e rest n k h3
    have checks : channelArgsOk n (s.copyEntry e) = true ↔ ok := by
      rw [channelArgsOk_iff]
      simp only [copyEntry_argNum, copyEntry_argWord, Nat.reduceLeDiff]
      rfl
    refine ⟨fun bad => ?_, fun good => ?_⟩
    · exact refused_of_rule (fun _ => rfl) rfl h ((rule _).trans (if_neg fun passed => bad (checks.mp passed)))
    · refine ends_of_rule (fun _ => rfl) rfl h ((rule _).trans ((if_pos (checks.mpr good)).trans ?_))
      simp only [copyEntry_argNum, copyEntry_argWord, Nat.reduceLeDiff]
      rfl
  · have band : (s.copyEntry e).num 3 = argNum s e 3 := copyEntry_argNum s e 3 (by omega) (by omega)
    refine ⟨fun above => ?_, fun within => ?_⟩
    · exact refused_of_rule (fun _ => rfl) rfl h (if_neg (by omega))
    · refine ends_of_rule (fun _ => rfl) rfl h ((if_pos (by omega)).trans ?_)
      rw [band]
      rfl

/-- Settles O34: a scan of one channel, by its configuration and its stuck check. -/
theorem scanHandlesEachChannel : Obligations.ScanHandlesEachChannel := by
  intro s codes run
  refine ⟨_, congrArg Host.Outcome.next (scanCompletion_running s codes run), rfl, rfl, rfl, fun n => ?_⟩
  intro c d code same table count value
  have scanned : d = c.scan n (!s.level.scanned) (sel codes n) := scannedLevel_channel s codes n
  refine ⟨fun off => scanned.trans (scan_unconfigured n _ _ off), fun on => ?_⟩
  intro stuck
  have sample : d = (sampled n same code c).stuckCheck := by
    rw [scanned, scan_configured n _ _ on, Bool.not_not]
  have before : sampled n same code c =
      { c with
        lastRaw := code, runLength := count, quality := table.1, filter := table.2
        value := if table.1 = .good then value else c.value } := by
    unfold sampled
    rw [scaled_eq]
    rfl
  rw [before] at sample
  exact ⟨fun yes => sample.trans (stuckCheck_stuck yes), fun no => sample.trans (stuckCheck_moving no)⟩

/-- Settles O35: the scan in closed form, its sea record row by row and its reports. -/
theorem scanRecordsSeaAndReports : Obligations.ScanRecordsSeaAndReports := by
  refine ⟨fun s codes run => ?_, fun s codes run => ?_⟩
  · refine ⟨_, congrArg Host.Outcome.next (scanCompletion_running s codes run), rfl, ?_⟩
    intro g0 g1 apart from0 from1
    refine ⟨fun h0 h1 near => ?_, fun h0 h1 far valid => ?_, fun h0 h1 far none => ?_, fun h0 h1 => ?_,
      fun h1 h0 => ?_, fun h0 h1 => ?_⟩
    · exact scannedLevel_sea s codes (deriveSea_agree g0 g1 _ _ _ _ h0 h1 near)
    · have sea := deriveSea_apart g0 g1 s.level.band s.tide.valid s.tide.level s.level.seaValue h0 h1 far
      exact scannedLevel_sea s codes (sea.trans (by rw [valid, arbitrate_predicted]))
    · have sea := deriveSea_apart g0 g1 s.level.band s.tide.valid s.tide.level s.level.seaValue h0 h1 far
      exact scannedLevel_sea s codes (sea.trans (by rw [none, arbitrate_unpredicted]))
    · exact scannedLevel_sea s codes (deriveSea_first g0 g1 _ _ _ _ h0 h1)
    · exact scannedLevel_sea s codes (deriveSea_second g0 g1 _ _ _ _ h1 h0)
    · exact scannedLevel_sea s codes (deriveSea_lost g0 g1 _ _ _ _ h0 h1)
  · refine ⟨_, congrArg Host.Outcome.next (scanCompletion_running s codes run), fun changed => ?_, fun same => ?_, ?_⟩
    · have sea : ((scannedLevel s codes).seaQuality != s.level.seaQuality) = true := bne_iff_ne.mpr changed
      dsimp only
      rw [scanPort, sea]
      rfl
    · have sea : ((scannedLevel s codes).seaQuality != s.level.seaQuality) = false := bne_eq_false_iff_eq.mpr same
      dsimp only
      rw [scanPort, sea]
      rfl
    · dsimp only
      unfold scanReports
      simp only [differential_eq]
      rfl

/-- Settles O36: the appended history and the rate that it gives. -/
theorem minuteHistoryAndRate : Obligations.MinuteHistoryAndRate := by
  intro s run
  refine ⟨fun m rest hw => ?_, fun old new mark rest hw => ?_⟩
  · intro entry h t
    have appended : s.level.append.history = h := append_history s.level
    have history : s.level.append = { s.level with history := h } := by
      rw [← appended]
      rfl
    have event : ∀ rate, (rateOf h, rateValid h) = rate → exec .minuteEventLevel s = .next (t rate) := by
      intro rate hr
      refine congrArg Host.Outcome.next ((minuteEventLevel_head s m rest run hw).trans ?_)
      rw [history, ← hr]
    have last : h.getLast? = some entry := by
      have := append_last s.level
      rwa [history] at this
    refine ⟨fun invalid => event _ ?_, fun oldest full known first => event _ ?_⟩
    · obtain ⟨rate, mark⟩ := rate_invalid invalid
      rw [rate, mark]
    · obtain ⟨rate, mark⟩ := rate_valid full known first last
      rw [rate, mark]
  · refine congrArg Host.Outcome.next ?_
    unfold State.timeSetEventLevel
    rw [s.whenRunning_running _ run, hw]
    rfl

end

/-!
# Events that leave the edition-change events on their way

SWAP_TIDE alone sends an edition-change event and EDITION_CHANGE_EVENT alone delivers one (R74). What every other operation
leaves of them is a `simp` lemma of that operation.
-/

section
namespace Sys2Proof

open Sys2Proof.Machine

section
variable (s : State)

/-- Through a fold of operations that leave them. -/
theorem foldl_editionChanges {α : Type} (f : State → α → State)
    (h : ∀ s a, (f s a).wires.editionChanges = s.wires.editionChanges) (l : List α) :
    (l.foldl f s).wires.editionChanges = s.wires.editionChanges := by
  induction l generalizing s with
  | nil => rfl
  | cons a l ih => rw [List.foldl_cons, ih, h]

/-! ## Host writes and snapshots -/

@[simp] theorem writeHand_editionChanges (e : Entry) (w : Word) :
    (s.writeHand e w).wires.editionChanges = s.wires.editionChanges := by
  unfold State.writeHand
  split <;> rfl

@[simp] theorem writeEntryWord_editionChanges (e : Entry) (o : Fin 32) (w : Word) :
    (s.writeEntryWord e o w).wires.editionChanges = s.wires.editionChanges := by
  unfold State.writeEntryWord
  split <;> rfl

theorem snapshotRule_editionChanges (o : WorkingCopy) :
    (snapshotRule o s).1.wires.editionChanges = s.wires.editionChanges := by
  unfold snapshotRule
  split
  · rfl
  · split
    · rfl
    · split
      · rfl
      · dsimp only [reply]
        rw [State.writeWords_frame]

/-! ## The screen and wash units -/

@[simp] theorem withScreen_editionChanges (n : ScreenNo) (x : Screen) (w : Wash) :
    (withScreen s n x w).wires.editionChanges = s.wires.editionChanges := rfl

@[simp] theorem withFlag_editionChanges (f : Flag) : (withFlag s f).wires.editionChanges = s.wires.editionChanges := rfl

@[simp] theorem washOrderEnded_editionChanges (x : Screen) (r : OrderResult) :
    (washOrderEnded x r s).wires.editionChanges = s.wires.editionChanges := by
  unfold washOrderEnded
  split <;> simp

@[simp] theorem completeWash_editionChanges (x : Screen) (r : OrderResult) :
    (s.completeWash x r).wires.editionChanges = s.wires.editionChanges := washOrderEnded_editionChanges s x r

@[simp] theorem sendChokeFrom_editionChanges (old : Bool) :
    (s.sendChokeFrom old).wires.editionChanges = s.wires.editionChanges := by
  unfold State.sendChokeFrom
  split <;> rfl

@[simp] theorem request_editionChanges (n : ScreenNo) (c : Cause) :
    (s.request n c).wires.editionChanges = s.wires.editionChanges := by
  rw [request_eq]
  simp only [apply_ite State.wires, apply_ite Wires.editionChanges, withScreen_editionChanges, ite_self]

@[simp] theorem stallScreen_editionChanges (n : ScreenNo) :
    (s.stallScreen n).wires.editionChanges = s.wires.editionChanges := by
  rw [stallScreen_eq]
  simp

@[simp] theorem countedEnd_editionChanges (n : ScreenNo) :
    (s.countedEnd n).wires.editionChanges = s.wires.editionChanges := by
  rw [countedEnd_eq]
  dsimp only
  rw [washOrderEnded_editionChanges]
  split <;> rfl

@[simp] theorem turn_editionChanges (n : ScreenNo) : (s.turn n).wires.editionChanges = s.wires.editionChanges := by
  unfold State.turn
  dsimp only
  split
  case h_2 =>
    split
    · split
      · rfl
      · rw [countedEnd_editionChanges]
        rfl
    · rfl
  all_goals rfl

@[simp] theorem overload_editionChanges (n : ScreenNo) :
    (s.overload n).wires.editionChanges = s.wires.editionChanges := by
  unfold State.overload
  split <;> simp

@[simp] theorem endRundown_editionChanges (n : ScreenNo) :
    (s.endRundown n).wires.editionChanges = s.wires.editionChanges := by
  unfold State.endRundown
  dsimp only
  split <;> rfl

@[simp] theorem grantTo_editionChanges (n : ScreenNo) :
    (s.grantTo n).wires.editionChanges = s.wires.editionChanges := by
  unfold State.grantTo
  dsimp only
  split <;> simp

@[simp] theorem cancelWash_editionChanges (n : ScreenNo) :
    (s.cancelWash n).wires.editionChanges = s.wires.editionChanges := by
  rw [cancelWash_eq]
  dsimp only
  split <;> simp

@[simp] theorem differentialAt_editionChanges (n : ScreenNo) (d : Differential) :
    (s.differentialAt n d).wires.editionChanges = s.wires.editionChanges := by
  rw [differentialAt_eq]
  unfold differentialHandled
  simp only [apply_ite State.wires, apply_ite Wires.editionChanges, withScreen_editionChanges, withFlag_editionChanges,
    ite_self]

/-- A screen's field line, in every phase. -/
theorem line_editionChanges (fitted old level : Bool) (store event : State → State)
    (hs : (store s).wires.editionChanges = s.wires.editionChanges)
    (he : ∀ t, (event t).wires.editionChanges = t.wires.editionChanges) :
    (s.line fitted old level store event).wires.editionChanges = s.wires.editionChanges := by
  unfold State.line
  split
  · split
    · rfl
    · rfl
    · exact hs
    · split
      · exact (he _).trans hs
      · exact hs
  · rfl

@[simp] theorem holdWash_editionChanges (n : ScreenNo) :
    (s.holdWash n).wires.editionChanges = s.wires.editionChanges := by
  unfold State.holdWash
  split <;> rfl

@[simp] theorem acceptWash_editionChanges (o : WorkingCopy) (n : ScreenNo) :
    (s.acceptWash o n).wires.editionChanges = s.wires.editionChanges := by
  have raised : ∀ (t : State) (turns : Nat), (t.raiseTurns n turns).wires.editionChanges = t.wires.editionChanges := by
    intro t turns
    unfold State.raiseTurns
    dsimp only
    split <;> rfl
  unfold State.acceptWash
  dsimp only
  rw [raised, request_editionChanges]
  rfl

/-! ## The pump unit -/

@[simp] theorem pumpEvent_editionChanges (p : PumpNo) (f : Pump → Pump) :
    (s.pumpEvent p f).wires.editionChanges = s.wires.editionChanges := by
  rw [pumpEvent_eq]
  rfl

@[simp] theorem trip_editionChanges (cause : StopCause) (p : PumpNo) :
    (s.trip cause p).wires.editionChanges = s.wires.editionChanges := by
  unfold State.trip
  simp

@[simp] theorem settlePumps_editionChanges (ps : List PumpNo) (before : State) :
    (State.settlePumps ps s before).wires.editionChanges = s.wires.editionChanges := by
  unfold State.settlePumps
  rw [reportRunning_eq]
  dsimp only
  rw [foldl_editionChanges _ (State.reportIfChanged before) fun t p => by rw [reportIfChanged_eq],
    foldl_editionChanges _ State.reevaluate fun _ _ => rfl]

@[simp] theorem start_editionChanges (p : PumpNo) : (s.start p).wires.editionChanges = s.wires.editionChanges := by
  unfold State.start
  split
  · split
    · simp
    · rfl
  · rfl

@[simp] theorem proof_editionChanges (p : PumpNo) : (s.proof p).wires.editionChanges = s.wires.editionChanges := by
  unfold State.proof
  split <;> simp

@[simp] theorem unproof_editionChanges (p : PumpNo) : (s.unproof p).wires.editionChanges = s.wires.editionChanges := by
  unfold State.unproof
  split <;> rfl

@[simp] theorem motorFault_editionChanges (p : PumpNo) :
    (s.motorFault p).wires.editionChanges = s.wires.editionChanges := by
  unfold State.motorFault
  split <;> simp

/-- A pump's field line, in every phase. -/
theorem pumpLine_editionChanges (p : PumpNo) (changes : Bool) (store event : State → State)
    (hs : (store s).wires.editionChanges = s.wires.editionChanges)
    (he : ∀ t, (event t).wires.editionChanges = t.wires.editionChanges) :
    (s.pumpLine p changes store event).wires.editionChanges = s.wires.editionChanges := by
  unfold State.pumpLine
  split
  · split
    · rfl
    · rfl
    · exact hs
    · exact (he _).trans hs
  · rfl

theorem restartDelayEnd_editionChanges (p : PumpNo) :
    (s.restartDelayEnd p).wires.editionChanges = s.wires.editionChanges := by
  unfold State.restartDelayEnd
  split
  · split <;> simp
  · rfl

/-! ## The duty unit -/

@[simp] theorem askStart_editionChanges (p : PumpNo) : (s.askStart p).wires.editionChanges = s.wires.editionChanges := rfl

@[simp] theorem askStop_editionChanges (p : PumpNo) : (s.askStop p).wires.editionChanges = s.wires.editionChanges := rfl

@[simp] theorem setMove_editionChanges (m : Move) : (s.setMove m).wires.editionChanges = s.wires.editionChanges := rfl

@[simp] theorem completeChange_editionChanges (r : OrderResult) (i o : PumpNo) :
    (s.completeChange r i o).wires.editionChanges = s.wires.editionChanges := by
  unfold State.completeChange
  split <;> simp

@[simp] theorem abandonChange_editionChanges (m : Move) (r : OrderResult) (i o : PumpNo) :
    (s.abandonChange m r i o).wires.editionChanges = s.wires.editionChanges := completeChange_editionChanges (s.setMove m) r i o

@[simp] theorem changeDone_editionChanges (i o : PumpNo) :
    (s.changeDone i o).wires.editionChanges = s.wires.editionChanges := by
  unfold State.changeDone
  simp

@[simp] theorem endMove_editionChanges : s.endMove.wires.editionChanges = s.wires.editionChanges := by
  unfold State.endMove
  split <;> simp

@[simp] theorem stopExcess_editionChanges : s.stopExcess.wires.editionChanges = s.wires.editionChanges :=
  foldl_editionChanges s (fun t p => t.askStop p) (fun _ _ => rfl) _

@[simp] theorem startOne_editionChanges : s.startOne.wires.editionChanges = s.wires.editionChanges := by
  unfold State.startOne State.fallShort
  split <;> simp

@[simp] theorem changeOver_editionChanges : s.changeOver.wires.editionChanges = s.wires.editionChanges := by
  unfold State.changeOver
  split <;> simp

theorem reconcileOnce_editionChanges {s t : State} (h : s.reconcileOnce = some t) :
    t.wires.editionChanges = s.wires.editionChanges := by
  unfold State.reconcileOnce at h
  split at h
  · cases h
    simp
  · split at h
    · cases h
      simp
    · split at h <;> cases h
      simp

@[simp] theorem reconcile_editionChanges : s.reconcile.wires.editionChanges = s.wires.editionChanges := by
  have pending : s.applyPending.wires.editionChanges = s.wires.editionChanges := by
    unfold State.applyPending
    split
    · rfl
    · dsimp only
      split
      · next t h => exact (reconcileOnce_editionChanges h).trans rfl
      · rfl
  unfold State.reconcile
  split
  · next t h => exact reconcileOnce_editionChanges h
  · split
    · exact pending
    · rfl

@[simp] theorem dutyEvent_editionChanges (before : Duty) :
    (s.dutyEvent before).wires.editionChanges = s.wires.editionChanges := by
  have settled : ∀ t : State, t.settleShortfall.wires.editionChanges = t.wires.editionChanges := by
    intro t
    unfold State.settleShortfall
    split <;> rfl
  unfold State.dutyEvent
  dsimp only
  split
  · rw [settled, reconcile_editionChanges]
    rfl
  · rfl

/-- A change of the duty record, settled as an event. -/
theorem setDuty_dutyEvent_editionChanges (d before : Duty) :
    ((s.setDuty d).dutyEvent before).wires.editionChanges = s.wires.editionChanges := dutyEvent_editionChanges _ before

@[simp] theorem moveRules_editionChanges (r : PumpReport) (mark : Bool) :
    (s.moveRules r mark).wires.editionChanges = s.wires.editionChanges := by
  have incoming : ∀ i o, (s.incomingReport r mark i o).wires.editionChanges = s.wires.editionChanges := by
    intro i o
    unfold State.incomingReport
    split
    · simp
    · split <;> simp
  unfold State.moveRules
  split
  · rfl
  · split <;> rfl
  · split
    · exact incoming _ _
    · split <;> simp

@[simp] theorem hearReport_editionChanges (r : PumpReport) :
    (s.hearReport r).wires.editionChanges = s.wires.editionChanges := by
  unfold State.hearReport
  simp

@[simp] theorem cancelChange_editionChanges : s.cancelChange.wires.editionChanges = s.wires.editionChanges := by
  unfold State.cancelChange
  split <;> simp

@[simp] theorem rotate_editionChanges : s.rotate.wires.editionChanges = s.wires.editionChanges := by
  unfold State.rotate
  dsimp only
  split
  · rfl
  · split <;> simp

@[simp] theorem acceptChange_editionChanges (o : WorkingCopy) (outgoing incoming : PumpNo) :
    (s.acceptChange o outgoing incoming).wires.editionChanges = s.wires.editionChanges := by
  unfold State.acceptChange
  simp

/-! ## Takes and rules of the orders (R10, R12, R13) -/

@[simp] theorem finish_editionChanges (o : WorkingCopy) (r : Reply) :
    (finish o r).wires.editionChanges = r.1.wires.editionChanges := by
  unfold finish
  simp

theorem whenRunning_editionChanges (f : State → State) (h : (f s).wires.editionChanges = s.wires.editionChanges) :
    (s.whenRunning f).wires.editionChanges = s.wires.editionChanges := by
  unfold State.whenRunning
  split
  · exact h
  all_goals rfl

theorem take_editionChanges (kind : Option OrderKind) (body : WorkingCopy → State → State)
    (h : ∀ o t, (body o t).wires.editionChanges = t.wires.editionChanges) :
    (s.take kind body).wires.editionChanges = s.wires.editionChanges := by
  rcases s.take_cases kind body with ht | ⟨e, rest, -, -, -, ht⟩
  · rw [ht]
  · rw [ht, h]
    rfl

theorem takeImmediate_editionChanges (kind : OrderKind) (rule : WorkingCopy → State → Reply)
    (h : ∀ o t, (rule o t).1.wires.editionChanges = t.wires.editionChanges) :
    (s.takeImmediate kind rule).wires.editionChanges = s.wires.editionChanges :=
  take_editionChanges s _ _ fun o t => (finish_editionChanges o _).trans (h o t)

theorem forScreen_editionChanges (w : Word) (k : ScreenNo → Reply)
    (h : ∀ n, (k n).1.wires.editionChanges = s.wires.editionChanges) :
    (forScreen w s k).1.wires.editionChanges = s.wires.editionChanges := by
  rcases forScreen_cases w s k with hk | hk | ⟨n, -, hk⟩ <;> rw [hk]
  · rfl
  · rfl
  · exact h n

theorem forPump_editionChanges (w : Word) (k : PumpNo → Reply)
    (h : ∀ p, (k p).1.wires.editionChanges = s.wires.editionChanges) :
    (forPump w s k).1.wires.editionChanges = s.wires.editionChanges := by
  rcases forPump_cases w s k with hk | hk | ⟨p, -, hk⟩ <;> rw [hk]
  · rfl
  · rfl
  · exact h p

/-- A rule that refuses or answers, by a condition. -/
theorem ite_editionChanges {c : Prop} [Decidable c] {a b : Reply} (ha : a.1.wires.editionChanges = s.wires.editionChanges)
    (hb : b.1.wires.editionChanges = s.wires.editionChanges) :
    (if c then a else b).1.wires.editionChanges = s.wires.editionChanges := by
  split
  · exact ha
  · exact hb

theorem setScreenRule_editionChanges (o : WorkingCopy) :
    (setScreenRule o s).1.wires.editionChanges = s.wires.editionChanges := by
  refine forScreen_editionChanges s _ _ fun n => ?_
  split
  · rfl
  · exact ite_editionChanges s rfl rfl

theorem washRule_editionChanges (o : WorkingCopy) : (washRule o s).wires.editionChanges = s.wires.editionChanges := by
  unfold washRule
  split
  · exact finish_editionChanges o _
  · split
    · exact finish_editionChanges o _
    · exact acceptWash_editionChanges s o _

theorem holdScreenRule_editionChanges (o : WorkingCopy) :
    (holdScreenRule o s).1.wires.editionChanges = s.wires.editionChanges := by
  rw [holdScreenRule_eq]
  refine forScreen_editionChanges s _ _ fun n => ?_
  dsimp only [reply]
  rw [sendChokeFrom_editionChanges, completeWash_editionChanges, outOfService_eq, withScreen_editionChanges,
    holdWash_editionChanges]

theorem pumpReply_editionChanges (p : PumpNo) (f : Pump → Pump) (answers : List Word) :
    (reply answers (s.pumpEvent p f)).1.wires.editionChanges = s.wires.editionChanges := by
  dsimp only [reply]
  rw [pumpEvent_editionChanges]

theorem setPumpRule_editionChanges (o : WorkingCopy) :
    (setPumpRule o s).1.wires.editionChanges = s.wires.editionChanges := by
  refine forPump_editionChanges s _ _ fun p => ite_editionChanges s ?_ rfl
  dsimp only [reply]
  rw [pumpEvent_editionChanges]

theorem setDemandRule_editionChanges (o : WorkingCopy) :
    (setDemandRule o s).1.wires.editionChanges = s.wires.editionChanges := by
  refine ite_editionChanges s rfl (ite_editionChanges s rfl ?_)
  dsimp only [reply]
  rw [setDuty_dutyEvent_editionChanges]

theorem setChokeRule_editionChanges (o : WorkingCopy) :
    (setChokeRule o s).1.wires.editionChanges = s.wires.editionChanges := by
  refine ite_editionChanges s rfl (ite_editionChanges s rfl ?_)
  dsimp only [reply]
  rw [setDuty_dutyEvent_editionChanges]

theorem setRosterRule_editionChanges (o : WorkingCopy) :
    (setRosterRule o s).1.wires.editionChanges = s.wires.editionChanges := by
  refine ite_editionChanges s rfl (ite_editionChanges s rfl ?_)
  split
  · rfl
  · exact ite_editionChanges s rfl (ite_editionChanges s rfl (setDuty_dutyEvent_editionChanges s _ _))

theorem changeRule_editionChanges (o : WorkingCopy) :
    (changeRule o s).wires.editionChanges = s.wires.editionChanges := by
  unfold changeRule
  split
  · exact finish_editionChanges o _
  · split
    · exact finish_editionChanges o _
    · exact acceptChange_editionChanges s o _ _

/-! ## Every command downstream -/

/-- No command of the port, the screens, the wash header, the pumps or the duty unit sends or delivers an edition-change event. -/
theorem exec_downstream_editionChanges (c : Instr) (h : isUpstream c = false) :
    ∃ t, exec c s = .next t ∧ t.wires.editionChanges = s.wires.editionChanges := by
  cases c
  case powerApplication | coldStartUpCompletion | supplyLoss | resetNFall | resetNRelease | crystalConfirmed |
      crystalFailure | confirmPeriodRestart | secondStep | unitTick | timerExpiry | intervalRestart | setTime | setTimer |
      stopTimer | setChannel | setSea | scanCompletion | minuteEventLevel | timeSetEventLevel | loadTide | swapTide |
      minuteEventTide | timeSetEventTide | suspectChangeEventTide | setAlarm | ackAlarm | minuteEventAlarm |
      timeSetEventAlarm | suspectChangeEventAlarm | editionChangeEvent | seaReport | rateReport => cases h
  case arrival | withdrawal | giveBack | cancelRequest | handIllegal | entryWordWrite | bulkWrite =>
    refine ⟨_, rfl, whenRunning_editionChanges s _ ?_⟩
    split
    · rfl
    · split <;> simp
  case summaryWrite | enableWrite | readOnly => exact ⟨_, rfl, whenRunning_editionChanges s _ rfl⟩
  case faultWrite =>
    refine ⟨_, rfl, whenRunning_editionChanges s _ ?_⟩
    split <;> rfl
  case unknownKind => exact ⟨_, rfl, take_editionChanges s _ _ fun o _ => finish_editionChanges o _⟩
  case describe | lockDuty => exact ⟨_, rfl, takeImmediate_editionChanges s _ _ fun _ _ => rfl⟩
  case snapshot => exact ⟨_, rfl, takeImmediate_editionChanges s _ _ fun o t => snapshotRule_editionChanges t o⟩
  case setScreen => exact ⟨_, rfl, takeImmediate_editionChanges s _ _ fun o t => setScreenRule_editionChanges t o⟩
  case wash => exact ⟨_, rfl, take_editionChanges s _ _ fun o t => washRule_editionChanges t o⟩
  case holdScreen => exact ⟨_, rfl, takeImmediate_editionChanges s _ _ fun o t => holdScreenRule_editionChanges t o⟩
  case releaseScreen =>
    exact ⟨_, rfl, takeImmediate_editionChanges s _ _ fun _ t => forScreen_editionChanges t _ _ fun _ => rfl⟩
  case resetScreen =>
    exact ⟨_, rfl, takeImmediate_editionChanges s _ _ fun _ t =>
      forScreen_editionChanges t _ _ fun _ => ite_editionChanges t rfl rfl⟩
  case setWash =>
    exact ⟨_, rfl, takeImmediate_editionChanges s _ _ fun _ t => ite_editionChanges t rfl (ite_editionChanges t rfl rfl)⟩
  case setPump => exact ⟨_, rfl, takeImmediate_editionChanges s _ _ fun o t => setPumpRule_editionChanges t o⟩
  case holdPump | releasePump =>
    exact ⟨_, rfl, takeImmediate_editionChanges s _ _ fun _ t =>
      forPump_editionChanges t _ _ fun p => pumpReply_editionChanges t p _ _⟩
  case resetPump =>
    exact ⟨_, rfl, takeImmediate_editionChanges s _ _ fun _ t =>
      forPump_editionChanges t _ _ fun p => ite_editionChanges t rfl (pumpReply_editionChanges t p _ _)⟩
  case setDemand => exact ⟨_, rfl, takeImmediate_editionChanges s _ _ fun o t => setDemandRule_editionChanges t o⟩
  case setChoke => exact ⟨_, rfl, takeImmediate_editionChanges s _ _ fun o t => setChokeRule_editionChanges t o⟩
  case setRoster => exact ⟨_, rfl, takeImmediate_editionChanges s _ _ fun o t => setRosterRule_editionChanges t o⟩
  case change => exact ⟨_, rfl, take_editionChanges s _ _ fun o t => changeRule_editionChanges t o⟩
  case turnEdge n level => exact ⟨_, rfl, line_editionChanges s _ _ _ _ _ rfl fun t => turn_editionChanges t n⟩
  case overloadEvent n level => exact ⟨_, rfl, line_editionChanges s _ _ _ _ _ rfl fun t => overload_editionChanges t n⟩
  case proofEdge p => exact ⟨_, rfl, pumpLine_editionChanges s p _ _ _ rfl fun t => proof_editionChanges t p⟩
  case proofDrop p => exact ⟨_, rfl, pumpLine_editionChanges s p _ _ _ rfl fun t => unproof_editionChanges t p⟩
  case motorFaultEvent p => exact ⟨_, rfl, pumpLine_editionChanges s p _ _ _ rfl fun t => motorFault_editionChanges t p⟩
  case motorFaultClear p => exact ⟨_, rfl, pumpLine_editionChanges s p _ _ _ rfl fun t => pumpEvent_editionChanges t p _⟩
  case restartDelayEnd p => exact ⟨_, rfl, restartDelayEnd_editionChanges s p⟩
  case differentialReport =>
    refine ⟨_, rfl, whenRunning_editionChanges s _ ?_⟩
    split
    · rfl
    · rw [sendChokeFrom_editionChanges]
      exact foldl_editionChanges _ (fun (t : State) (m : ScreenNo × Differential) => t.differentialAt m.1 m.2)
        (fun t m => differentialAt_editionChanges t m.1 m.2) _
  all_goals refine ⟨_, rfl, whenRunning_editionChanges s _ ?_⟩
  case wReport =>
    split
    · rfl
    · rw [State.setFlagIf_wires, settlePumps_editionChanges]
      rfl
  case grant =>
    split
    · split
      · rfl
      · simp
    · rfl
  case turnWatchExpiry | rundownExpiry | proveWatchExpiry | lossWatchExpiry | stoppingClockExpiry =>
    split <;> simp
  case hReport =>
    split
    · rfl
    · dsimp only
      split <;> rfl
  case washRequest | washCancel | changeCancel =>
    split
    · rfl
    · dsimp only
      split <;> simp
  case wReportDuty | runningPumpReport | chokeChangeEvent | actionChangeEvent | startRequest | stopRequest |
      pumpChangeReport | rotationExpiry =>
    split <;> simp

end
end Sys2Proof
end

/-!
# Alarms, level board and editions at every step

What a command leaves of the four invariants is said once (`Keeps`): an alarm (`AlarmOk`), a channel (`ChannelOk`) and an edition
are each followed through the operation that changes it, and every other command leaves all three records and the edition-change
events on their way.
-/

section
namespace Sys2Proof

open Sys2Proof.Machine

/-! ## An alarm (R86, R96) -/

/-- What an alarm holds while it is disabled (R86), and the states of an instant one (R96). -/
def AlarmOk (a : Alarm) : Prop :=
  (a.enabled = false → a.state = .quiet ∧ a.count = 0 ∧ a.inputLost = false ∧ a.armed = none) ∧
    (a.kind.measured = false → a.state = .quiet ∨ a.state = .clearedUnack)

theorem alarmInv_iff (s : State) : AlarmInv s ↔ ∀ i, AlarmOk (sel s.alarm.records i) := Iff.rfl

/-- An enabled alarm in a state that its kind allows. -/
theorem AlarmOk.of_enabled {a : Alarm} (h : a.enabled = true)
    (h' : a.kind.measured = false → a.state = .quiet ∨ a.state = .clearedUnack) : AlarmOk a :=
  ⟨fun off => absurd (h.symm.trans off) (by simp), h'⟩

/-- An enabled alarm that keeps its state, whatever else is written in it. -/
theorem AlarmOk.of_state {a b : Alarm} (h : AlarmOk a) (on : b.enabled = true) (kind : b.kind = a.kind)
    (state : b.state = a.state) : AlarmOk b := by
  refine .of_enabled on fun instant => ?_
  rw [kind] at instant
  rw [state]
  exact h.2 instant

/-- A measured alarm that is enabled may stand in any state. -/
theorem AlarmOk.of_measured {a : Alarm} (on : a.enabled = true) (h : a.kind.measured = true) : AlarmOk a :=
  .of_enabled on fun instant => by rw [h] at instant; cases instant

/-- An evaluation leaves enabled mark and kind (R87 to R93). -/
theorem measure_frame (a : Alarm) (now : Nat) (input : Option Int) :
    (a.measure now input).record.enabled = a.enabled ∧ (a.measure now input).record.kind = a.kind := by
  have run : ∀ (b : Alarm) (counted : Nat) (v : Int),
      (b.run now counted v).record.enabled = b.enabled ∧ (b.run now counted v).record.kind = b.kind := by
    intro b counted v
    unfold Alarm.run
    split
    · split <;> exact ⟨rfl, rfl⟩
    · exact ⟨rfl, rfl⟩
  cases input with
  | none =>
    show a.lose.record.enabled = _ ∧ a.lose.record.kind = _
    unfold Alarm.lose
    split <;> exact ⟨rfl, rfl⟩
  | some v =>
    unfold Alarm.measure Alarm.evaluate
    dsimp only
    split
    · exact run _ _ v
    · exact run _ _ v
    all_goals
      dsimp only [AlarmStep.still]
      split <;> exact ⟨rfl, rfl⟩

theorem measure_ok (a : Alarm) (now : Nat) (input : Option Int) (on : a.enabled = true) (h : a.kind.measured = true) :
    AlarmOk (a.measure now input).record := by
  obtain ⟨enabled, kind⟩ := measure_frame a now input
  exact .of_measured (enabled.trans on) (by rw [kind]; exact h)

theorem seaReport_ok (now : Nat) (level surge : Option Int) {a : Alarm} (h : AlarmOk a) :
    AlarmOk (a.seaReport now level surge).record := by
  unfold Alarm.seaReport
  split
  · next on =>
    split
    case h_1 hk | h_2 hk | h_3 hk | h_4 hk => exact measure_ok a now _ on (by rw [hk]; rfl)
    all_goals exact h
  · exact h

theorem rateReport_ok (now : Nat) (rate : Option Int) {a : Alarm} (h : AlarmOk a) :
    AlarmOk (a.rateReport now rate).record := by
  unfold Alarm.rateReport
  split
  · next on =>
    split
    case h_1 hk | h_2 hk => exact measure_ok a now _ on (by rw [hk]; rfl)
    all_goals exact h
  · exact h

/-- Arming writes the trigger and the mark alone (R97). -/
theorem arm_frame (a : Alarm) (now : Nat) (suspect : Bool) (live : List TideEvent) :
    a.arm now suspect live =
      { a with armed := (a.arm now suspect live).armed, inputLost := (a.arm now suspect live).inputLost } := by
  unfold Alarm.arm
  split <;> rfl

theorem arm_ok (now : Nat) (suspect : Bool) (live : List TideEvent) {a : Alarm} (h : AlarmOk a) (on : a.enabled = true) :
    AlarmOk (a.arm now suspect live) := by
  rw [arm_frame]
  exact h.of_state on rfl rfl

theorem inactive_ok {a : Alarm} (h : AlarmOk a) (on : a.enabled = true) : AlarmOk a.inactive := h.of_state on rfl rfl

theorem rearm_ok (now : Nat) (suspect : Bool) (live : List TideEvent) {a : Alarm} (h : AlarmOk a) :
    AlarmOk (a.rearm now suspect live) := by
  unfold Alarm.rearm
  split
  · next lead =>
    rw [Bool.and_eq_true] at lead
    exact arm_ok now suspect live h lead.1
  · exact h

/-- A trigger leaves its alarm CLEARED_UNACK (R96). -/
theorem trigger_ok (now : Nat) {a : Alarm} (on : a.enabled = true) : AlarmOk (a.trigger now) :=
  .of_enabled on fun _ => Or.inr rfl

theorem atMinute_ok (m : MinuteEvent) (live : List TideEvent) {a : Alarm} (h : AlarmOk a) :
    AlarmOk (a.atMinute m live).record := by
  unfold Alarm.atMinute
  split
  · next on =>
    split
    case h_1 =>
      unfold Alarm.leadMinute
      split
      · exact inactive_ok h on
      · split
        · exact arm_ok _ _ _ (trigger_ok m.count on) on
        · exact h
    case h_2 =>
      split
      · exact trigger_ok m.count on
      · exact h
    all_goals exact h
  · exact h

/-- An acknowledgement finds a disabled alarm QUIET and an instant one never RAISED (R92). -/
theorem ack_ok {a : Alarm} (h : AlarmOk a) : AlarmOk a.ack := by
  obtain ⟨disabled, instant⟩ := id h
  unfold Alarm.ack
  split
  case h_1 raised =>
    refine ⟨fun off => ?_, fun kind => ?_⟩
    · cases raised.symm.trans (disabled off).1
    · rcases instant kind with state | state <;> cases raised.symm.trans state
  case h_2 cleared =>
    refine ⟨fun off => ?_, fun _ => Or.inl rfl⟩
    cases cleared.symm.trans (disabled off).1
  all_goals exact h

/-- A record that SET_ALARM stores begins as R107 has it. -/
theorem newAlarm_fresh {o : WorkingCopy} {a : Alarm} (h : newAlarm o = some a) :
    a.state = .quiet ∧ a.count = 0 ∧ a.inputLost = false ∧ a.armed = none := by
  unfold newAlarm at h
  split at h
  · split at h
    · unfold measuredRecord at h
      split at h <;> cases h
      exact ⟨rfl, rfl, rfl, rfl⟩
    · split at h
      · unfold leadRecord at h
        split at h
        · obtain ⟨w, -, rfl⟩ := Option.map_eq_some_iff.mp h
          exact ⟨rfl, rfl, rfl, rfl⟩
        · cases h
      · unfold clockRecord at h
        split at h
        · dsimp only at h
          split at h
          · cases h
          · split at h <;> cases h
            exact ⟨rfl, rfl, rfl, rfl⟩
          · split at h <;> cases h
            exact ⟨rfl, rfl, rfl, rfl⟩
        · cases h
  · cases h

theorem newAlarm_ok {o : WorkingCopy} {a : Alarm} (h : newAlarm o = some a) : AlarmOk a :=
  ⟨fun _ => newAlarm_fresh h, fun _ => Or.inl (newAlarm_fresh h).1⟩

/-! ## A channel (R50, R53) -/

/-- A filter of as many codes as the channel's quality allows. -/
def ChannelOk (c : Channel) : Prop := filterFits c.quality c.filter.length

theorem levelInv_iff (s : State) :
    LevelInv s ↔ (∀ n, ChannelOk (sel s.level.channels n)) ∧ s.level.history.length ≤ 11 := Iff.rfl

theorem broke_ok (c : Channel) {q : Quality} (h : filterFits q 0) : ChannelOk (c.broke q) := h

theorem refill_ok (c : Channel) (code : Nat) : ChannelOk (c.refill code) := (by decide : 1 < 4)

/-- An accepted sample in FILLING: the fourth code makes the channel GOOD. -/
theorem fill_ok (n : Fin 16) (code : Nat) {c : Channel} (h : ChannelOk c) (hq : c.quality = .filling) :
    ChannelOk (c.fill n code) := by
  unfold ChannelOk at h
  rw [hq] at h
  have h : c.filter.length < 4 := h
  unfold Channel.fill
  split
  · next four => exact four
  · next short =>
    unfold ChannelOk
    dsimp only
    rw [hq]
    show (c.filter ++ [code]).length < 4
    rw [List.length_append, List.length_singleton] at short ⊢
    omega

/-- An accepted sample in GOOD: the oldest code leaves. -/
theorem advance_ok (n : Fin 16) (code : Nat) {c : Channel} (h : ChannelOk c) (hq : c.quality = .good) :
    ChannelOk (c.advance n code) := by
  unfold ChannelOk at h ⊢
  rw [hq] at h
  have h : c.filter.length = 4 := h
  unfold Channel.advance
  dsimp only
  rw [hq]
  show (c.filter.tail ++ [code]).length = 4
  rw [List.length_append, List.length_tail, List.length_singleton, h]

theorem classed_ok (n : Fin 16) (code : Nat) (same : Bool) {c : Channel} (h : ChannelOk c) :
    ChannelOk (c.classed n code same) := by
  unfold Channel.classed
  split
  · exact broke_ok c rfl
  · exact broke_ok c rfl
  · unfold Channel.accept
    split
    case h_1 => exact h
    case h_2 hq => exact fill_ok n code h hq
    case h_3 hq => exact advance_ok n code h hq
    case h_4 | h_5 => exact refill_ok c code
    case h_6 =>
      split
      · exact h
      · exact refill_ok c code

theorem stuckCheck_ok {c : Channel} (h : ChannelOk c) : ChannelOk c.stuckCheck := by
  unfold Channel.stuckCheck
  split
  · exact broke_ok c rfl
  · exact h

theorem scan_ok (n : Fin 16) (first : Bool) (code : RawCode) {c : Channel} (h : ChannelOk c) :
    ChannelOk (c.scan n first code) := by
  unfold Channel.scan
  split
  · exact h
  · refine stuckCheck_ok ?_
    have classed : ChannelOk (c.classed n code.toNat (!first && code.toNat == c.lastRaw)) := classed_ok n _ _ h
    exact classed

theorem channelFall_ok (c : Channel) : ChannelOk c.fall := by
  unfold ChannelOk Channel.fall
  dsimp only
  split
  · rfl
  · show 0 < 4
    decide

/-! ## An edition (R68, R71) -/

/-- A working copy holds a payload of at most 64 events (R10). -/
theorem copyEntry_payload_length (s : State) (e : Entry) : (s.copyEntry e).payload.length ≤ 256 := by
  unfold State.copyEntry
  dsimp only
  split
  · next fits =>
    obtain ⟨-, fits⟩ := fits
    simp only [payloadFits, Bool.and_eq_true, decide_eq_true_eq] at fits
    obtain ⟨⟨⟨-, count⟩, -⟩, -⟩ := fits
    simp only [State.words, List.length_map, List.length_range]
    omega
  · simp

/-- A tide record whose editions are both as R68 and R71 give them keeps so with one replaced by another such edition. -/
theorem setEdition_ok (t : Tide) (e : Edition) (l : List TideEvent) (h : EditionOk t.editionA ∧ EditionOk t.editionB)
    (hl : EditionOk l) : EditionOk (t.setEdition e l).editionA ∧ EditionOk (t.setEdition e l).editionB := by
  obtain ⟨a, b⟩ := h
  cases e
  · exact ⟨hl, b⟩
  · exact ⟨a, hl⟩

theorem setEdition_live (t : Tide) (e : Edition) (l : List TideEvent) : (t.setEdition e l).live = t.live := by
  cases e <;> rfl

/-! ## What a command leaves of the four invariants -/

/-- Alarms, channels with their history, the edition-change events and the editions are left in order. -/
structure Keeps (s t : State) : Prop where
  alarm : AlarmInv s → AlarmInv t
  level : LevelInv s → LevelInv t
  edition : EditionInv s → EditionInv t
  tide : TideInv s → TideInv t

theorem Keeps.refl (s : State) : Keeps s s := ⟨id, id, id, id⟩

theorem Keeps.trans {s t u : State} (h : Keeps s t) (h' : Keeps t u) : Keeps s u :=
  ⟨h'.alarm ∘ h.alarm, h'.level ∘ h.level, h'.edition ∘ h.edition, h'.tide ∘ h.tide⟩

/-- The same records and edition-change events are in the same order. -/
theorem Keeps.of_eq {s t : State} (level : t.level = s.level) (tide : t.tide = s.tide) (alarm : t.alarm = s.alarm)
    (changes : t.wires.editionChanges = s.wires.editionChanges) : Keeps s t := by
  constructor <;> intro h
  · unfold AlarmInv
    rw [alarm]
    exact h
  · unfold LevelInv
    rw [level]
    exact h
  · unfold EditionInv
    rw [changes, tide]
    exact h
  · unfold TideInv
    rw [tide]
    exact h

theorem Downstream.keeps {s t : State} (h : Downstream s t) (h' : t.wires.editionChanges = s.wires.editionChanges) :
    Keeps s t := .of_eq h.level h.tide h.alarm h'

/-- Other messages on their way, the edition-change events being the same. -/
theorem wires_keeps (s : State) (w : Wires) (h : w.editionChanges = s.wires.editionChanges) : Keeps s { s with wires := w } :=
  .of_eq rfl rfl rfl h

/-- Another level record whose channels and history are in order as the first's were. -/
theorem Keeps.of_level {s t : State} (level : LevelInv s → LevelInv t) (tide : t.tide = s.tide) (alarm : t.alarm = s.alarm)
    (changes : t.wires.editionChanges = s.wires.editionChanges) : Keeps s t :=
  let same : Keeps s { t with level := s.level } := .of_eq rfl tide alarm changes
  ⟨same.alarm, level, same.edition, same.tide⟩

/-- Another alarm unit whose alarms are in order as the first's were. -/
theorem Keeps.of_alarm {s t : State} (alarm : AlarmInv s → AlarmInv t) (level : t.level = s.level) (tide : t.tide = s.tide)
    (changes : t.wires.editionChanges = s.wires.editionChanges) : Keeps s t :=
  let same : Keeps s { t with alarm := s.alarm } := .of_eq level tide rfl changes
  ⟨alarm, same.level, same.edition, same.tide⟩

theorem whenRunning_keeps (f : State → State) (s : State) (h : Keeps s (f s)) : Keeps s (s.whenRunning f) := by
  unfold State.whenRunning
  split
  · exact h
  all_goals exact .refl s

/-- An immediate order keeps what its rule keeps on the taken state (R10, R13). -/
theorem takeImmediate_keeps (s : State) (kind : OrderKind) (rule : WorkingCopy → State → Reply)
    (h : ∀ e rest, Keeps (takenState s e rest) (rule (s.copyEntry e) (takenState s e rest)).1) :
    Keeps s (s.takeImmediate kind rule) := by
  rcases s.take_cases (some kind) (fun o s => finish o (rule o s)) with ht | ⟨e, rest, -, -, -, ht⟩
  · unfold State.takeImmediate
    rw [ht]
    exact .refl s
  · unfold State.takeImmediate
    rw [ht]
    have taken : Keeps s (takenState s e rest) := .of_eq rfl rfl rfl rfl
    have completed : ∀ (o : WorkingCopy) (r : Reply), Keeps r.1 (finish o r) := fun o r =>
      .of_eq (State.complete_level ..) (State.complete_tide ..) (State.complete_alarm ..) (finish_editionChanges o r)
    exact taken.trans ((h e rest).trans (completed _ _))

theorem forSixteen_keeps (w : Word) (s : State) (k : Fin 16 → Reply) (h : ∀ i, Keeps s (k i).1) :
    Keeps s (forSixteen w s k).1 := by
  rcases forSixteen_cases w s k with hk | ⟨i, hk⟩ <;> rw [hk]
  · exact .refl s
  · exact h i

/-- A rule that refuses or answers, by a condition. -/
theorem ite_keeps {c : Prop} [Decidable c] {s : State} {a b : Reply} (ha : Keeps s a.1) (hb : Keeps s b.1) :
    Keeps s (if c then a else b).1 := by
  split
  · exact ha
  · exact hb

/-! ### The alarm unit -/

/-- An event of the alarm unit keeps the alarms in order if it does so with each (R86). -/
theorem alarmEvent_keeps (s : State) (unit : AlarmUnit) (f : Alarm → AlarmStep) (hu : unit.records = s.alarm.records)
    (h : ∀ a, AlarmOk a → AlarmOk (f a).record) : Keeps s (s.alarmEvent unit f) := by
  rw [alarmEvent_eq]
  refine .of_alarm (fun ok => (alarmInv_iff _).mpr fun i => ?_) rfl rfl rfl
  have record : sel (alarmsHandled s unit f).alarm.records i = (f (sel s.alarm.records i)).record := by
    rw [← hu]
    exact sel_tab _ i
  rw [record]
  exact h _ (ok i)

/-- So does an event of the alarm unit that a message brings. -/
theorem delivered_alarmEvent_keeps (s : State) (w : Wires) (unit : AlarmUnit) (f : Alarm → AlarmStep)
    (hw : w.editionChanges = s.wires.editionChanges) (hu : unit.records = s.alarm.records)
    (h : ∀ a, AlarmOk a → AlarmOk (f a).record) : Keeps s (({ s with wires := w } : State).alarmEvent unit f) :=
  (wires_keeps s w hw).trans (alarmEvent_keeps _ unit f hu h)

theorem seaReport_keeps (s : State) : Keeps s s.seaReport := by
  refine whenRunning_keeps _ s ?_
  split
  · exact .refl s
  · exact delivered_alarmEvent_keeps s _ _ _ rfl rfl fun _ => seaReport_ok _ _ _

theorem rateReport_keeps (s : State) : Keeps s s.rateReport := by
  refine whenRunning_keeps _ s ?_
  split
  · exact .refl s
  · exact delivered_alarmEvent_keeps s _ _ _ rfl rfl fun _ => rateReport_ok _ _

theorem minuteEventAlarm_keeps (s : State) : Keeps s s.minuteEventAlarm := by
  refine whenRunning_keeps _ s ?_
  split
  · exact delivered_alarmEvent_keeps s _ _ _ rfl rfl fun _ => atMinute_ok _ _
  · exact .refl s

theorem timeSetEventAlarm_keeps (s : State) : Keeps s s.timeSetEventAlarm := by
  refine whenRunning_keeps _ s ?_
  split
  · exact delivered_alarmEvent_keeps s _ _ _ rfl rfl fun _ => rearm_ok _ _ _
  · exact .refl s

theorem suspectChangeEventAlarm_keeps (s : State) : Keeps s s.suspectChangeEventAlarm := by
  refine whenRunning_keeps _ s ?_
  split
  · refine delivered_alarmEvent_keeps s _ _ _ rfl rfl fun a ok => ?_
    dsimp only [AlarmStep.still]
    split
    · next lead =>
      rw [Bool.and_eq_true] at lead
      exact inactive_ok ok lead.1
    · exact ok
  · exact .refl s

/-- The delivery of an edition-change event finds one on its way at most (R74, log 28). -/
theorem editionChangeEvent_keeps (s : State) : Keeps s s.editionChangeEvent := by
  refine whenRunning_keeps _ s ?_
  split
  · exact .refl s
  · next rest hw =>
    have popped : Keeps s { s with wires := { s.wires with editionChanges := rest } } := by
      refine ⟨id, id, fun ok => Or.inl ?_, id⟩
      rcases ok with none | one
      · cases hw.symm.trans none
      · cases hw.symm.trans one
        rfl
    exact popped.trans (alarmEvent_keeps _ _ _ rfl fun _ => rearm_ok _ _ _)

theorem setAlarmRule_keeps (o : WorkingCopy) (s : State) : Keeps s (setAlarmRule o s).1 := by
  refine forSixteen_keeps _ s _ fun i => ?_
  split
  · exact .refl s
  · next a ha =>
    have sent : ∀ (old : AlarmUnit) (t : State), Keeps t (t.sendActionChangeFrom old) := by
      intro old t
      unfold State.sendActionChangeFrom
      split
      · exact .refl t
      · exact .of_eq rfl rfl rfl rfl
    refine ite_keeps (.refl s) (.trans ?_ (sent _ _))
    refine .of_alarm (fun ok => (alarmInv_iff _).mpr fun j => ?_) rfl rfl rfl
    dsimp only
    rw [sel_upd]
    split
    · exact rearm_ok _ _ _ (newAlarm_ok ha)
    · exact ok j

theorem ackAlarmRule_keeps (o : WorkingCopy) (s : State) : Keeps s (ackAlarmRule o s).1 := by
  refine .of_alarm (fun ok => (alarmInv_iff _).mpr fun i => ?_) rfl rfl rfl
  have record : sel (ackAlarmRule o s).1.alarm.records i =
      if (o.arg 3).getLsbD i.1 then (sel s.alarm.records i).ack else sel s.alarm.records i := sel_tab _ i
  rw [record]
  split
  · exact ack_ok (ok i)
  · exact ok i

/-! ### The level unit -/

/-- A channel that SET_CHANNEL stores begins to fill from an empty filter (R55). -/
theorem setChannelRule_keeps (o : WorkingCopy) (s : State) : Keeps s (setChannelRule o s).1 := by
  refine forSixteen_keeps _ s _ fun n => ite_keeps ?_ (.refl s)
  refine .of_level (fun ok => ?_) rfl rfl rfl
  obtain ⟨channels, history⟩ := (levelInv_iff s).mp ok
  refine (levelInv_iff _).mpr ⟨fun m => ?_, history⟩
  dsimp only [reply]
  rw [sel_upd]
  split
  · exact (by decide : 0 < 4)
  · exact channels m

theorem scanCompletion_keeps (codes : Vector RawCode 16) (s : State) : Keeps s (s.scanCompletion codes) := by
  by_cases run : s.phase = .running
  · rw [scanCompletion_running s codes run]
    refine .of_level (fun ok => ?_) rfl rfl rfl
    obtain ⟨channels, history⟩ := (levelInv_iff s).mp ok
    refine (levelInv_iff _).mpr ⟨fun n => ?_, history⟩
    dsimp only
    rw [scannedLevel_channel]
    exact scan_ok n _ _ (channels n)
  · rw [State.scanCompletion, s.whenRunning_idle _ run]
    exact .refl s

/-- An append leaves at most eleven entries (R65). -/
theorem append_length (l : Level) (h : l.history.length ≤ 11) : l.append.history.length ≤ 11 := by
  rw [append_history]
  split
  · rw [List.length_append, List.length_singleton]
    omega
  · rw [List.length_append, List.length_drop, List.length_singleton]
    omega

theorem minuteEventLevel_keeps (s : State) : Keeps s s.minuteEventLevel := by
  refine whenRunning_keeps _ s ?_
  split
  · refine .of_level (fun ok => ?_) rfl rfl rfl
    obtain ⟨channels, history⟩ := (levelInv_iff s).mp ok
    exact (levelInv_iff _).mpr ⟨channels, append_length _ history⟩
  · exact .refl s

theorem timeSetEventLevel_keeps (s : State) : Keeps s s.timeSetEventLevel := by
  refine whenRunning_keeps _ s ?_
  split
  · refine .of_level (fun ok => ?_) rfl rfl rfl
    obtain ⟨channels, -⟩ := (levelInv_iff s).mp ok
    exact (levelInv_iff _).mpr ⟨channels, Nat.zero_le 11⟩
  · exact .refl s

/-! ### The tide unit -/

/-- A recomputation keeps editions and live select (R75 to R78). -/
theorem recompute_keeps (t : Tide) (s : State) (ha : t.editionA = s.tide.editionA) (hb : t.editionB = s.tide.editionB)
    (hl : t.live = s.tide.live) : Keeps s (s.recompute t) := by
  obtain ⟨a, b, live, -, -⟩ := recomputed_keeps t
  rw [recompute_eq]
  refine ⟨id, id, fun ok => ?_, fun ok => ?_⟩
  · unfold EditionInv
    dsimp only
    rw [live, hl]
    exact ok
  · unfold TideInv
    dsimp only
    rw [a, b, ha, hb]
    exact ok

theorem delivered_recompute_keeps (s : State) (w : Wires) (t : Tide) (hw : w.editionChanges = s.wires.editionChanges)
    (ha : t.editionA = s.tide.editionA) (hb : t.editionB = s.tide.editionB) (hl : t.live = s.tide.live) :
    Keeps s (({ s with wires := w } : State).recompute t) :=
  (wires_keeps s w hw).trans (recompute_keeps t _ ha hb hl)

/-- LOAD_TIDE replaces the spare edition by one that its checks have passed (R71, R72). -/
theorem loadTideRule_keeps (o : WorkingCopy) (s : State) (h : o.payload.length ≤ 256) : Keeps s (loadTideRule o s).1 := by
  refine ite_keeps (.of_eq rfl rfl rfl rfl) (ite_keeps (.of_eq rfl rfl rfl rfl) ?_)
  split
  · exact .refl s
  · next events passed =>
    have edition : EditionOk events := checkEvents_edition passed (by rw [rawEvents_length]; omega)
    refine ⟨id, id, fun ok => ?_, fun ok => setEdition_ok _ _ _ ok edition⟩
    unfold EditionInv
    dsimp only [reply]
    rw [State.setTide_wires, State.setTide_tide, setEdition_live]
    exact ok

/-- A swap that is taken with no edition-change event on its way sends one for the edition that it makes live (R74). -/
theorem swapTideRule_keeps (o : WorkingCopy) (s : State)
    (h : s.wires.editionChanges = [] ∨ s.tide.spareEdition.isEmpty = true) : Keeps s (swapTideRule o s).1 := by
  unfold swapTideRule
  split
  · exact .refl s
  · next full =>
    have free := h.resolve_right full
    obtain ⟨a, b, -, -, -⟩ := recomputed_keeps { s.tide with live := s.tide.live.other }
    dsimp only [reply]
    rw [recompute_eq]
    refine ⟨id, id, fun _ => Or.inr ?_, fun ok => ?_⟩
    · unfold State.sendEditionChange
      dsimp only
      rw [free, List.nil_append]
    · unfold TideInv State.sendEditionChange
      dsimp only
      rw [a, b]
      exact ok

theorem takeSwap_keeps (s : State) : Keeps s s.takeSwap := by
  unfold State.takeSwap
  split
  · exact .refl s
  · next due =>
    refine takeImmediate_keeps s _ _ fun e rest => swapTideRule_keeps _ _ ?_
    simp only [State.swapWaits, Bool.and_eq_true, Bool.not_eq_true', not_and, Bool.not_eq_false] at due
    by_cases free : s.wires.editionChanges = []
    · exact Or.inl free
    · exact Or.inr (due (by simpa using free))

/-! ### The time unit -/

theorem sendSecond_keeps (old new : Clock) (s : State) : Keeps s (s.sendSecond old new) := by
  unfold State.sendSecond
  dsimp only
  split
  · split <;> exact .of_eq rfl rfl rfl rfl
  · split <;> exact .of_eq rfl rfl rfl rfl

theorem stepTimer_keeps (t : TimerNo) (u : TickUnit) (s : State) : Keeps s (s.stepTimer t u) := by
  have told : ∀ (o : TimerOwner) (x : State), Keeps x (x.tellOwner o) := by
    intro o x
    cases o <;> exact .of_eq rfl rfl rfl rfl
  unfold State.stepTimer
  dsimp only
  split
  · split
    · exact .trans (t := s.setTimer t (s.timer t).expire) (.of_eq rfl rfl rfl rfl) (told _ _)
    · exact .of_eq rfl rfl rfl rfl
  · exact .refl s

theorem timerExpiry_keeps (t : TimerNo) (s : State) : Keeps s (s.timerExpiry t) := by
  refine whenRunning_keeps _ s ?_
  split
  · exact .refl s
  · next u rest _ => exact (wires_keeps s { s.wires with dueSteps := rest } rfl).trans (stepTimer_keeps t u _)

theorem intervalRestart_keeps (n : ScreenNo) (s : State) : Keeps s (s.intervalRestart n) := by
  refine whenRunning_keeps _ s ?_
  split
  · exact .refl s
  · unfold State.reloadInterval
    split
    · exact wires_keeps s _ rfl
    · split <;> exact .of_eq rfl rfl rfl rfl

theorem secondStep_keeps (s : State) : Keeps s s.secondStep := by
  unfold State.secondStep
  split
  case h_4 =>
    have counted : Keeps s s.stepClock.secondAtPumps.secondAtScreens := .of_eq rfl rfl rfl rfl
    exact counted.trans (sendSecond_keeps _ _ _)
  all_goals exact .of_eq rfl rfl rfl rfl

theorem crystalFailure_keeps (s : State) : Keeps s s.crystalFailure := by
  unfold State.crystalFailure
  split
  · split
    case h_3 =>
      dsimp only
      split <;> exact .of_eq rfl rfl rfl rfl
    all_goals exact .of_eq rfl rfl rfl rfl
  · split <;> exact .of_eq rfl rfl rfl rfl

theorem setTimerRule_keeps (o : WorkingCopy) (s : State) : Keeps s (setTimerRule o s).1 := by
  have rewritten : ∀ (t : TimerNo) (w : TimerOwner) (u : TickUnit) (preset : Nat) (start : Bool),
      Keeps s (rewriteTimer t w u preset start s).1 := fun _ _ _ _ _ => ite_keeps (.refl s) (.of_eq rfl rfl rfl rfl)
  refine forSixteen_keeps _ s _ fun t => ite_keeps (.refl s) ?_
  split
  · exact .refl s
  · refine ite_keeps (.refl s) (ite_keeps (.of_eq rfl rfl rfl rfl) ?_)
    split
    · exact .refl s
    · unfold rewriteChecked
      split
      case h_2 =>
        rcases forScreen_cases (o.arg 5) s _ with hk | hk | ⟨n, -, hk⟩ <;> rw [hk]
        · exact .refl s
        · exact .refl s
        · exact rewritten ..
      all_goals exact rewritten ..

/-! ### Power and RESET_N -/

/-- The hold leaves the channels with empty filters, the history empty and nothing on its way (R56, R67, log 2). -/
theorem hold_keeps (s : State) : Keeps s s.hold := by
  refine ⟨id, fun _ => (levelInv_iff _).mpr ⟨fun n => ?_, Nat.zero_le 11⟩, fun _ => Or.inl rfl, id⟩
  have channel : sel s.hold.level.channels n = (sel s.level.channels n).fall := sel_tab _ n
  rw [channel]
  exact channelFall_ok _

/-- An application of power leaves what the part holds right after reset (R20). -/
theorem powerOn_keeps (a b : BitVec 3) (s : State) : Keeps s (s.powerOn a b) := by
  obtain ⟨-, -, -, -, -, -, alarm, level, -, edition, tide⟩ := resetHasInvariants
  exact ⟨fun _ => alarm, fun _ => level, fun _ => edition, fun _ => tide⟩

theorem resetRelease_keeps (s : State) : Keeps s s.resetRelease := by
  by_cases hp : s.phase = .held
  · have swept : Keeps s (sweptPart s) := by
      rw [sweptPart_frame]
      exact .of_eq rfl rfl rfl rfl
    have released : ∀ u : State, Keeps u (unitsReleased u) := by
      intro u
      have tide : Keeps u (u.recompute (reloadedTide u)) := recompute_keeps _ u rfl rfl rfl
      rw [recompute_eq] at tide
      refine ⟨fun ok => (alarmInv_iff _).mpr fun i => ?_, id, tide.edition, tide.tide⟩
      have record : sel (unitsReleased u).alarm.records i =
          (sel u.alarm.records i).rearm u.time.clock.minuteCount u.time.clock.suspect
            (reloadedTide u).recomputed.liveEdition := sel_tab _ i
      rw [record]
      exact rearm_ok _ _ _ (ok i)
    rw [resetRelease_held s hp]
    exact swept.trans ((released _).trans
      ((dutyEvent_dutyOnly _ _).downstream.keeps (dutyEvent_editionChanges _ _)))
  · rw [resetRelease_idle s hp]
    exact .of_eq rfl rfl rfl rfl

theorem startUp_keeps (s : State) : Keeps s s.startUp := by
  have begun : Keeps s s.delaysBegin := .of_eq rfl rfl rfl rfl
  unfold State.startUp
  split
  · split
    · exact begun.trans (hold_keeps _)
    · exact .of_eq rfl rfl rfl rfl
  all_goals exact .refl s

theorem resetFall_keeps (s : State) : Keeps s s.resetFall := by
  have low : Keeps s { s with resetLow := true } := .of_eq rfl rfl rfl rfl
  unfold State.resetFall
  split
  case h_3 => exact low.trans (hold_keeps _)
  case h_4 => exact .refl s
  all_goals exact low

/-! ### Every command -/

/-- What power, RESET_N and the commands of the time, level, tide and alarm units keep. -/
theorem exec_upstream_keeps (c : Instr) (s : State) (h : isUpstream c = true) : ∃ t, exec c s = .next t ∧ Keeps s t := by
  cases c
  case powerApplication a b => exact ⟨_, rfl, powerOn_keeps a b s⟩
  case supplyLoss => exact ⟨_, rfl, .of_eq rfl rfl rfl rfl⟩
  case coldStartUpCompletion => exact ⟨_, rfl, startUp_keeps s⟩
  case resetNFall => exact ⟨_, rfl, resetFall_keeps s⟩
  case resetNRelease => exact ⟨_, rfl, resetRelease_keeps s⟩
  case crystalConfirmed =>
    refine ⟨_, rfl, ?_⟩
    unfold State.crystalConfirmed
    split <;> exact .of_eq rfl rfl rfl rfl
  case crystalFailure => exact ⟨_, rfl, crystalFailure_keeps s⟩
  case confirmPeriodRestart =>
    refine ⟨_, rfl, ?_⟩
    unfold State.confirmRestart
    split <;> exact .of_eq rfl rfl rfl rfl
  case secondStep => exact ⟨_, rfl, secondStep_keeps s⟩
  case unitTick =>
    refine ⟨_, rfl, whenRunning_keeps _ s ?_⟩
    split <;> exact .of_eq rfl rfl rfl rfl
  case timerExpiry t => exact ⟨_, rfl, timerExpiry_keeps t s⟩
  case intervalRestart n => exact ⟨_, rfl, intervalRestart_keeps n s⟩
  case setTime =>
    exact ⟨_, rfl, takeImmediate_keeps s _ _ fun _ _ => ite_keeps (.of_eq rfl rfl rfl rfl) (.refl _)⟩
  case setTimer => exact ⟨_, rfl, takeImmediate_keeps s _ _ fun _ _ => setTimerRule_keeps _ _⟩
  case stopTimer =>
    exact ⟨_, rfl, takeImmediate_keeps s _ _ fun _ _ => forSixteen_keeps _ _ _ fun _ => .of_eq rfl rfl rfl rfl⟩
  case setChannel => exact ⟨_, rfl, takeImmediate_keeps s _ _ fun _ _ => setChannelRule_keeps _ _⟩
  case setSea =>
    exact ⟨_, rfl, takeImmediate_keeps s _ _ fun _ _ => ite_keeps (.of_level id rfl rfl rfl) (.refl _)⟩
  case scanCompletion codes => exact ⟨_, rfl, scanCompletion_keeps codes s⟩
  case minuteEventLevel => exact ⟨_, rfl, minuteEventLevel_keeps s⟩
  case timeSetEventLevel => exact ⟨_, rfl, timeSetEventLevel_keeps s⟩
  case loadTide =>
    exact ⟨_, rfl, takeImmediate_keeps s _ _ fun e _ => loadTideRule_keeps _ _ (copyEntry_payload_length s e)⟩
  case swapTide => exact ⟨_, rfl, takeSwap_keeps s⟩
  case minuteEventTide | timeSetEventTide | suspectChangeEventTide =>
    refine ⟨_, rfl, whenRunning_keeps _ s ?_⟩
    split
    · exact delivered_recompute_keeps s _ _ rfl rfl rfl rfl
    · exact .refl s
  case setAlarm => exact ⟨_, rfl, takeImmediate_keeps s _ _ fun _ _ => setAlarmRule_keeps _ _⟩
  case ackAlarm => exact ⟨_, rfl, takeImmediate_keeps s _ _ fun _ _ => ackAlarmRule_keeps _ _⟩
  case minuteEventAlarm => exact ⟨_, rfl, minuteEventAlarm_keeps s⟩
  case timeSetEventAlarm => exact ⟨_, rfl, timeSetEventAlarm_keeps s⟩
  case suspectChangeEventAlarm => exact ⟨_, rfl, suspectChangeEventAlarm_keeps s⟩
  case editionChangeEvent => exact ⟨_, rfl, editionChangeEvent_keeps s⟩
  case seaReport => exact ⟨_, rfl, seaReport_keeps s⟩
  case rateReport => exact ⟨_, rfl, rateReport_keeps s⟩
  all_goals cases h

/-- Every command keeps the four invariants. -/
theorem exec_keeps (c : Instr) (s : State) : ∃ t, exec c s = .next t ∧ Keeps s t := by
  cases hc : isUpstream c with
  | true => exact exec_upstream_keeps c s hc
  | false =>
    obtain ⟨t, exec, downstream⟩ := exec_downstream c s hc
    obtain ⟨u, exec', changes⟩ := exec_downstream_editionChanges s c hc
    cases exec.symm.trans exec'
    exact ⟨t, exec, downstream.keeps changes⟩

/-- Every step keeps them, a source cycle included. -/
theorem step_keeps {s t : State} (h : step s = .next t) : Keeps s t := by
  unfold step at h
  split at h
  · cases h
    unfold State.sourceCycle
    split <;> exact .of_eq rfl rfl rfl rfl
  · next c rest _ =>
    obtain ⟨u, exec, keeps⟩ := exec_keeps c { s with pending := rest }
    cases exec.symm.trans h
    exact ⟨keeps.alarm, keeps.level, keeps.edition, keeps.tide⟩

end Sys2Proof

open Sys2Proof Sys2Proof.Machine

/-- Settles O12: every command is followed once, what it changes through the operation that changes it. -/
theorem alarmAndLevelInvKept : Obligations.AlarmAndLevelInvKept :=
  ⟨fun _ _ h hs => (step_keeps hs).alarm h, fun _ _ h hs => (step_keeps hs).level h,
    fun _ _ h hs => (step_keeps hs).edition h, fun _ _ h hs => (step_keeps hs).tide h⟩

end

/-!
# The events of the alarm unit

Each event handles an alarm by its kind; what a report, a minute event and an arming make of one alarm is said once, and the
instant that an arming sets is the least of the triggers after now.
-/

section
namespace Sys2Proof

open Sys2Proof.Machine

/-! ## One alarm at an event (R87, R88, R98 to R101) -/

/-- A sea report at an alarm: the LEVEL kinds and the SURGE kinds, enabled, are evaluated. -/
theorem seaReport_byKind (now : Nat) (level surge : Option Int) (a : Alarm) :
    a.seaReport now level surge =
      if a.enabled && (a.kind == .levelHigh || a.kind == .levelLow) then a.measure now level
      else if a.enabled && (a.kind == .surgeHigh || a.kind == .surgeLow) then a.measure now surge
      else .still a := by
  unfold Alarm.seaReport
  cases a.enabled
  · rfl
  · cases a.kind <;> rfl

/-- A rate report at an alarm: the rate kinds, enabled, are evaluated. -/
theorem rateReport_byKind (now : Nat) (rate : Option Int) (a : Alarm) :
    a.rateReport now rate =
      if a.enabled && (a.kind == .riseRate || a.kind == .fallRate) then a.measure now rate else .still a := by
  unfold Alarm.rateReport
  cases a.enabled
  · rfl
  · cases a.kind <;> rfl

theorem clockMatches_eq (m : MinuteEvent) (a : Alarm) :
    a.clockMatches m =
      (a.hour == m.hour && a.minute == m.minute &&
        (if a.mode = .weekdays then a.weekdays.getLsbD m.weekday else a.day == m.day)) := by
  unfold Alarm.clockMatches
  cases a.mode <;> rfl

/-- A minute event at an alarm: TIDE_LEAD and CLOCK, enabled. -/
theorem atMinute_byKind (m : MinuteEvent) (live : List TideEvent) (a : Alarm) :
    a.atMinute m live =
      if a.enabled && a.kind == .tideLead then a.leadMinute m live
      else if a.enabled && a.kind == .clock && a.clockMatches m then { record := a.trigger m.count, fired := true }
      else .still a := by
  unfold Alarm.atMinute
  cases a.enabled
  · rfl
  · cases a.kind <;> rfl

/-- The surge that a report gives, with one condition for its absence (R88). -/
theorem surgeInput_eq (v : Int) (q : SeaQuality) (t : Tide) :
    surgeInput v q t = if q = .lost ∨ t.valid = false then none else some (v - t.level) := by
  unfold surgeInput
  by_cases lost : q = .lost
  · simp only [lost, true_or, if_true]
  · cases t.valid <;> simp [lost]

/-! ## Arming (R97) -/

theorem leastInstant_cons (t : Nat) (l : List Nat) : leastInstant (t :: l) = leastFloor (some t) (leastInstant l) := rfl

/-- The least of some instants is the library's minimum of the list. -/
theorem leastInstant_eq (l : List Nat) : leastInstant l = l.min? := by
  induction l with
  | nil => rfl
  | cons t l ih =>
    rw [leastInstant_cons, ih, List.min?_cons]
    cases l.min? <;> rfl

theorem selects_iff (w : Which) (k : TideKind) :
    w.selects k = true ↔ (w = .high ∧ k = .high) ∨ (w = .low ∧ k = .low) ∨ w = .both := by
  cases w <;> cases k <;> decide

/-- A trigger instant: a selected tide event, less the lead, that lies strictly after now. -/
theorem mem_triggers (a : Alarm) (now t : Nat) (live : List TideEvent) :
    t ∈ a.triggers now live ↔ now < t ∧ ∃ x ∈ live, a.which.selects x.kind = true ∧ x.time = t + a.lead := by
  unfold Alarm.triggers
  simp only [List.mem_map, List.mem_filter, Bool.and_eq_true, decide_eq_true_eq]
  constructor
  · rintro ⟨x, ⟨hx, ⟨selected, early⟩, later⟩, rfl⟩
    exact ⟨later, x, hx, selected, by omega⟩
  · rintro ⟨later, x, hx, selected, time⟩
    exact ⟨x, ⟨hx, ⟨selected, by omega⟩, by omega⟩, by omega⟩

theorem arm_inactive {a : Alarm} {now : Nat} {mark : Bool} {live : List TideEvent} (h : mark = true ∨ live = []) :
    a.arm now mark live = a.inactive := by
  refine if_pos ?_
  rcases h with rfl | rfl
  · rfl
  · exact Bool.or_true mark

theorem arm_active {a : Alarm} {now : Nat} {live : List TideEvent} (h : live ≠ []) :
    a.arm now false live = { a with armed := (a.triggers now live).min?, inputLost := false } := by
  rw [← leastInstant_eq]
  exact if_neg (by simp [h])

/-! ## The delivery of an event (R86) -/

/-- An event of the alarm unit in closed form, each alarm handled as a second function says. -/
theorem alarmEvent_congr (s : State) (unit : AlarmUnit) {f g : Alarm → AlarmStep} (h : ∀ a, f a = g a) :
    s.alarmEvent unit f = alarmsHandled s unit g := by
  rw [alarmEvent_eq, funext h]

end Sys2Proof

open Sys2Proof Sys2Proof.Machine

/-- Settles O43: each event by the kinds it handles, and arming by the least trigger. -/
theorem alarmEventsHandleEveryAlarm : Obligations.AlarmEventsHandleEveryAlarm := by
  refine ⟨fun s run => ?_, fun a now mark live => ?_⟩
  · intro live still lead inactive
    refine ⟨fun v q rest hw => ?_, fun v valid rest hw => ?_, fun m rest hw => ?_, fun old new mark rest hw => ?_,
      fun mark rest hw => ?_, fun edition rest hw => ?_⟩
    · intro level surge
      refine congrArg Host.Outcome.next ?_
      unfold State.seaReport
      rw [s.whenRunning_running _ run, hw]
      refine alarmEvent_congr _ _ fun a => ?_
      rw [surgeInput_eq]
      exact seaReport_byKind _ _ _ a
    · refine congrArg Host.Outcome.next ?_
      unfold State.rateReport
      rw [s.whenRunning_running _ run, hw]
      exact alarmEvent_congr _ _ fun a => rateReport_byKind _ _ a
    · refine congrArg Host.Outcome.next ?_
      unfold State.minuteEventAlarm
      rw [s.whenRunning_running _ run, hw]
      refine alarmEvent_congr _ _ fun a => ?_
      rw [atMinute_byKind, clockMatches_eq, ← Bool.and_assoc, ← Bool.and_assoc]
      rfl
    · refine congrArg Host.Outcome.next ?_
      unfold State.timeSetEventAlarm
      rw [s.whenRunning_running _ run, hw]
      exact alarmEvent_eq ..
    · refine congrArg Host.Outcome.next ?_
      unfold State.suspectChangeEventAlarm
      rw [s.whenRunning_running _ run, hw]
      exact alarmEvent_eq ..
    · refine congrArg Host.Outcome.next ?_
      unfold State.editionChangeEvent
      rw [s.whenRunning_running _ run, hw]
      exact alarmEvent_eq ..
  · intro selects trigger b
    have triggers : ∀ t, t ∈ a.triggers now live ↔ trigger t := fun t => by
      rw [mem_triggers]
      simp only [selects_iff]
      rfl
    refine ⟨arm_frame a now mark live, fun h => ?_, fun clear full => ?_⟩
    · have off : b = a.inactive := arm_inactive h
      rw [off]
      exact ⟨rfl, rfl⟩
    · subst clear
      have armed : b = { a with armed := (a.triggers now live).min?, inputLost := false } := arm_active full
      rw [armed]
      refine ⟨rfl, fun t => ?_, ?_⟩
      · simp only [List.min?_eq_some_iff, triggers]
      · simp only [List.min?_eq_none_iff, List.eq_nil_iff_forall_not_mem, triggers]

end

/-!
# The tide prediction

A recomputation field by field; the pair that it predicts from, found by the order of the edition; the level as a share of the
range of the pair, rounded down; the next waters and the short mark.
-/

section
namespace Sys2Proof

open Sys2Proof.Machine

/-! ## A recomputation (R75 to R78) -/

/-- The pair that a recomputation predicts from, if there is one (R75). -/
def predictionPair (t : Tide) : Option (TideEvent × TideEvent) :=
  if t.suspect then none else pairAt t.now t.liveEdition

theorem recomputed_eq (t : Tide) :
    t.recomputed = { t with
      nextHigh := nextWater .high t.now t.liveEdition, nextLow := nextWater .low t.now t.liveEdition
      short := isShort t.now t.liveEdition, valid := (predictionPair t).isSome
      level := ((predictionPair t).map fun p => predict p.1 p.2 t.now).getD t.level } := by
  unfold Tide.recomputed predictionPair
  dsimp only
  split
  · rfl
  · cases pairAt t.now t.liveEdition <;> rfl

theorem recomputed_held {t : Tide} (h : predictionPair t = none) :
    t.recomputed.valid = false ∧ t.recomputed.level = t.level := by
  rw [recomputed_eq, h]
  exact ⟨rfl, rfl⟩

theorem recomputed_predicted {t : Tide} {a b : TideEvent} (h : predictionPair t = some (a, b)) :
    t.recomputed.valid = true ∧ t.recomputed.level = predict a b t.now := by
  rw [recomputed_eq, h]
  exact ⟨rfl, rfl⟩

/-! ## The pair (R75) -/

/-- What the search for a pair finds is a pair of the list around now. -/
theorem pairAt_found {now : Nat} {l : List TideEvent} {a b : TideEvent} (h : pairAt now l = some (a, b)) :
    ∃ pre post, l = pre ++ a :: b :: post ∧ a.time ≤ now ∧ now < b.time := by
  induction l with
  | nil => cases h
  | cons x rest ih =>
    cases rest with
    | nil => cases h
    | cons y rest =>
      unfold pairAt at h
      split at h
      · next around =>
        cases h
        exact ⟨[], rest, rfl, around⟩
      · obtain ⟨pre, post, split, around⟩ := ih h
        exact ⟨x :: pre, post, congrArg (x :: ·) split, around⟩

/-- In rising order the pair around now is the one found: the second event of every earlier pair has passed. -/
theorem pairAt_around {now : Nat} {pre post : List TideEvent} {a b : TideEvent}
    (rising : (pre ++ a :: b :: post).Pairwise fun x y => x.time < y.time) (ha : a.time ≤ now) (hb : now < b.time) :
    pairAt now (pre ++ a :: b :: post) = some (a, b) := by
  induction pre with
  | nil => exact if_pos ⟨ha, hb⟩
  | cons x pre ih =>
    have later := ih (List.pairwise_cons.mp rising).2
    cases pre with
    | nil => exact (if_neg fun around => absurd ha (Nat.not_le.mpr around.2)).trans later
    | cons y pre =>
      have early : y.time < a.time := (List.pairwise_cons.mp (List.pairwise_cons.mp rising).2).1 a (by simp)
      exact (if_neg fun around => absurd around.2 (by omega)).trans later

/-! ## The rule of twelfths (R76) -/

/-- The twelfths of the range, times the duration `d`, that are covered `e` minutes after the first event. -/
def coveredTwelfths (d e : Nat) : Int :=
  twelfths (6 * e / d) * d + (twelfths (6 * e / d + 1) - twelfths (6 * e / d)) * (6 * e - 6 * e / d * d : Nat)

theorem predict_eq (a b : TideEvent) (now : Nat) :
    predict a b now = a.height + (b.height - a.height) * coveredTwelfths (b.time - a.time) (now - a.time) /
      (12 * (b.time - a.time : Nat)) := rfl

theorem twelfths_getD (k : Nat) : ([0, 1, 3, 6, 9, 11, 12] : List Int).getD k 12 = twelfths k := by
  match k with
  | 0 | 1 | 2 | 3 | 4 | 5 | 6 => rfl
  | _ + 7 => rfl

theorem twelfths_bounds (k : Nat) : 0 ≤ twelfths k ∧ twelfths k ≤ twelfths (k + 1) ∧ twelfths (k + 1) ≤ 12 := by
  match k with
  | 0 | 1 | 2 | 3 | 4 | 5 => decide
  | _ + 6 => exact ⟨Int.natCast_nonneg 12, le_refl 12, le_refl 12⟩

/-- Before the second event no more than five sixths are whole. -/
theorem sixth_le_five {d e : Nat} (h : e < d) : 6 * e / d ≤ 5 := by
  have : 6 * e / d < 6 := Nat.div_lt_of_lt_mul (by omega)
  omega

theorem coveredTwelfths_zero (d : Nat) : coveredTwelfths d 0 = 0 := by
  simp [coveredTwelfths, twelfths]

/-- Inside a sixth the line between its two boundaries is not left, so the range is never overrun. -/
theorem coveredTwelfths_bounds {d : Nat} (e : Nat) (h : 0 < d) :
    0 ≤ coveredTwelfths d e ∧ coveredTwelfths d e ≤ 12 * d := by
  obtain ⟨low, step, high⟩ := twelfths_bounds (6 * e / d)
  have part : 6 * e - 6 * e / d * d ≤ d := by
    rw [← Nat.mod_eq_sub_div_mul]
    exact (Nat.mod_lt _ h).le
  unfold coveredTwelfths
  generalize twelfths (6 * e / d) = lower at *
  generalize twelfths (6 * e / d + 1) = upper at *
  generalize 6 * e - 6 * e / d * d = r at *
  have part : (r : Int) ≤ d := by exact_mod_cast part
  have r0 : (0 : Int) ≤ r := Int.natCast_nonneg r
  constructor
  · exact add_nonneg (mul_nonneg low (Int.natCast_nonneg d)) (mul_nonneg (sub_nonneg.mpr step) r0)
  · calc lower * d + (upper - lower) * r
        ≤ lower * d + (upper - lower) * d := by gcongr
      _ = upper * d := by ring
      _ ≤ 12 * d := by gcongr

/-- A share of a range, rounded down, lies in the range. -/
theorem share_bounds (range : Int) {num den : Int} (hd : 0 < den) (h0 : 0 ≤ num) (h1 : num ≤ den) :
    (0 ≤ range → 0 ≤ range * num / den ∧ range * num / den ≤ range) ∧
      (range ≤ 0 → range ≤ range * num / den ∧ range * num / den ≤ 0) := by
  refine ⟨fun up => ⟨?_, ?_⟩, fun down => ⟨?_, ?_⟩⟩
  · exact Int.ediv_nonneg (mul_nonneg up h0) hd.le
  · exact Int.ediv_le_of_le_mul hd (mul_le_mul_of_nonneg_left h1 up)
  · exact Int.le_ediv_of_mul_le hd (mul_le_mul_of_nonpos_left h1 down)
  · exact Int.ediv_nonpos_of_nonpos_of_neg (mul_nonpos_of_nonpos_of_nonneg down h0) hd

theorem predict_at_first (a b : TideEvent) : predict a b a.time = a.height := by
  rw [predict_eq, Nat.sub_self, coveredTwelfths_zero, Int.mul_zero, Int.zero_ediv, Int.add_zero]

/-- A prediction lies between the heights of its pair. -/
theorem predict_bounds {a b : TideEvent} (now : Nat) (h : a.time < b.time) :
    (a.height ≤ b.height → a.height ≤ predict a b now ∧ predict a b now ≤ b.height) ∧
      (b.height ≤ a.height → b.height ≤ predict a b now ∧ predict a b now ≤ a.height) := by
  have duration : 0 < b.time - a.time := by omega
  obtain ⟨low, high⟩ := coveredTwelfths_bounds (now - a.time) duration
  obtain ⟨up, down⟩ := share_bounds (b.height - a.height) (by omega) low high
  rw [predict_eq]
  refine ⟨fun rising => ?_, fun falling => ?_⟩
  · have := up (by omega)
    omega
  · have := down (by omega)
    omega

/-! ## The next waters and the short mark (R77, R78) -/

/-- The next water of a kind is the first event of the kind after now. -/
theorem nextWater_some (kind : TideKind) (now : Nat) (l : List TideEvent) (w : Nat × Int) :
    nextWater kind now l = some w ↔ ∃ pre x post, l = pre ++ x :: post ∧ x.kind = kind ∧ now < x.time ∧
      w = (x.time, x.height) ∧ ∀ y ∈ pre, ¬(y.kind = kind ∧ now < y.time) := by
  unfold nextWater
  simp only [Option.map_eq_some_iff, List.find?_eq_some_iff_append, Bool.and_eq_true, beq_iff_eq, decide_eq_true_eq,
    Bool.not_eq_true', Bool.eq_false_iff, ne_eq]
  constructor
  · rintro ⟨x, ⟨⟨hk, ht⟩, pre, post, split, first⟩, rfl⟩
    exact ⟨pre, x, post, split, hk, ht, rfl, first⟩
  · rintro ⟨pre, x, post, split, hk, ht, rfl, first⟩
    exact ⟨x, ⟨⟨hk, ht⟩, pre, post, split, first⟩, rfl⟩

theorem isShort_iff (now : Nat) (l : List TideEvent) :
    isShort now l = true ↔ (l.filter fun x => now < x.time).length < 4 := decide_eq_true_iff

end Sys2Proof

open Sys2Proof Sys2Proof.Machine

/-- Settles O37: the pair by the order of the edition, the level by the twelfths covered, the waters by a search. -/
theorem predictionByTwelfths : Obligations.PredictionByTwelfths := by
  intro t rising u
  refine ⟨fun h => recomputed_held ?_, fun pre a b post clear edition ha hb => ?_, fun w => ?_, fun w => ?_, ?_,
    recomputed_keeps t⟩
  · unfold predictionPair
    rcases h with suspect | alone
    · exact if_pos suspect
    · split
      · rfl
      · cases found : pairAt t.now t.liveEdition with
        | none => rfl
        | some p =>
          obtain ⟨pre, post, around⟩ := pairAt_found found
          exact absurd ⟨pre, p.1, p.2, post, around⟩ alone
  · intro d k r c num
    have pair : predictionPair t = some (a, b) := by
      unfold predictionPair
      rw [clear, edition]
      exact pairAt_around (edition ▸ rising) ha hb
    obtain ⟨valid, level⟩ := recomputed_predicted pair
    obtain ⟨up, down⟩ := predict_bounds t.now (Nat.lt_of_le_of_lt ha hb)
    have covered : num = coveredTwelfths d (t.now - a.time) := by
      show c k * d + (c (k + 1) - c k) * r = _
      simp only [c, twelfths_getD]
      rfl
    refine ⟨valid, sixth_le_five (by omega), ?_, fun first => ?_, level ▸ up, level ▸ down⟩
    · rw [covered, Int.fdiv_eq_ediv_of_nonneg _ (by omega), ← predict_eq]
      exact level
    · rw [level, first]
      exact predict_at_first a b
  · show t.recomputed.nextHigh = some w ↔ _
    rw [recomputed_eq]
    exact nextWater_some .high t.now t.liveEdition w
  · show t.recomputed.nextLow = some w ↔ _
    rw [recomputed_eq]
    exact nextWater_some .low t.now t.liveEdition w
  · show t.recomputed.short = true ↔ _
    rw [recomputed_eq]
    exact isShort_iff t.now t.liveEdition

end

/-!
# Loading an edition

The checks of an event read off its words, one after another; a payload that passes, and the first event that does not; what
LOAD_TIDE makes of either.
-/

section
namespace Sys2Proof

open Sys2Proof.Machine

/-! ## The checks of one event (R71) -/

/-- The kind of an event from its kind word. -/
theorem ofWord_eq (w : Word) :
    TideKind.ofWord w = if w = 1 then some .high else if w = 2 then some .low else none := by
  have one : w = 1 ↔ w.toNat = 1 := BitVec.toNat_inj.symm
  have two : w = 2 ↔ w.toNat = 2 := BitVec.toNat_inj.symm
  simp only [one, two]
  unfold TideKind.ofWord
  split
  · next h => rw [h]; rfl
  · next h => rw [h]; rfl
  · next h1 h2 => rw [if_neg h1, if_neg h2]

/-- The event of four words, if their kind word is a kind (R71 check 3). -/
theorem event_eq (r : RawEvent) : r.event = if r.kind ≠ 1 ∧ r.kind ≠ 2 then none else some (eventOf r) := by
  unfold RawEvent.event eventOf
  rw [ofWord_eq]
  by_cases one : r.kind = 1
  · rw [if_pos one, if_neg fun h => h.1 one, if_pos one]
    rfl
  · by_cases two : r.kind = 2
    · rw [if_neg one, if_pos two, if_neg fun h => h.2 two, if_neg one]
      rfl
    · rw [if_neg one, if_neg two, if_pos ⟨one, two⟩]
      rfl

/-- A check in front of others, as the answer of the whole. -/
theorem verdict_ite (c : Prop) [Decidable c] (n : Nat) (o : Option Nat) (x : Except Nat TideEvent) :
    (if c then some n else o).elim x .error = if c then .error n else o.elim x .error := by
  split <;> rfl

/-- Checks 3 to 5 are those of an event with none before it. -/
theorem checkAlone_eq (r : RawEvent) : checkAlone r = (failedCheck none r).elim (.ok (eventOf r)) .error := by
  unfold checkAlone failedCheck
  simp only [verdict_ite, event_eq]
  by_cases unknown : r.kind ≠ 1 ∧ r.kind ≠ 2
  · rw [if_pos unknown, if_pos unknown]
  · rw [if_neg unknown, if_neg unknown]
    rfl

/-- The first of checks 6 to 9 that fails. -/
def failedPair (p r : RawEvent) : Option Nat :=
  let time := instantOfWords r.low r.high
  let before := instantOfWords p.low p.high
  if time ≤ before then some 6
  else if r.kind = p.kind then some 7
  else if time < before + 120 ∨ before + 720 < time then some 8
  else if (if r.kind = 1 then r.height.toInt ≤ p.height.toInt else p.height.toInt ≤ r.height.toInt) then some 9
  else none

theorem failedCheck_some (p r : RawEvent) :
    failedCheck (some p) r = (failedCheck none r).or (failedPair p r) := by
  unfold failedCheck
  dsimp only
  split
  · rfl
  · split
    · rfl
    · split <;> rfl

/-- The kind word is one of a kind (R71 check 3). -/
def KindOk (r : RawEvent) : Prop := r.kind = 1 ∨ r.kind = 2

theorem kindOk_of_passed {prev : Option RawEvent} {r : RawEvent} (h : failedCheck prev r = none) : KindOk r := by
  unfold failedCheck at h
  dsimp only at h
  split at h
  · cases h
  · next kind =>
    unfold KindOk
    tauto

theorem checkPair_eq {p r : RawEvent} (hp : KindOk p) (hr : KindOk r) :
    checkPair (eventOf p) (eventOf r) = (failedPair p r).elim (.ok (eventOf r)) .error := by
  have kinds : (eventOf r).kind = (eventOf p).kind ↔ r.kind = p.kind := by
    unfold eventOf
    rcases hp with hp | hp <;> rcases hr with hr | hr <;> simp [hp, hr]
  have notAbove : r.kind ≠ p.kind → ((!highAbove (eventOf p) (eventOf r)) = true ↔
      if r.kind = 1 then r.height.toInt ≤ p.height.toInt else p.height.toInt ≤ r.height.toInt) := by
    unfold highAbove eventOf
    rcases hp with hp | hp <;> rcases hr with hr | hr <;> simp [hp, hr]
  unfold checkPair failedPair
  simp only [verdict_ite]
  exact ite_congr rfl (fun _ => rfl) fun _ => ite_congr (propext kinds) (fun _ => rfl) fun other =>
    ite_congr rfl (fun _ => rfl) fun _ => ite_congr (propext (notAbove other)) (fun _ => rfl) fun _ => rfl

/-- The checks of an event after one that has a kind. -/
theorem checkEvent_after {p : RawEvent} (r : RawEvent) (hp : KindOk p) :
    checkEvent (some (eventOf p)) r = (failedCheck (some p) r).elim (.ok (eventOf r)) .error := by
  unfold checkEvent
  rw [checkAlone_eq, failedCheck_some]
  cases alone : failedCheck none r with
  | some n => rfl
  | none => exact checkPair_eq hp (kindOk_of_passed alone)

theorem checkEvent_first (r : RawEvent) :
    checkEvent none r = (failedCheck none r).elim (.ok (eventOf r)) .error := by
  unfold checkEvent
  rw [checkAlone_eq]
  cases failedCheck none r <;> rfl

/-! ## The checks of a payload (R71) -/

/-- The event before event `i` of a payload, if there is one. -/
def eventBefore (s : State) (offset i : Nat) : Option TideEvent :=
  if i = 0 then none else some (eventOf (payloadEvent s offset (i - 1)))

/-- The checks of event `i` when all events before it have passed. -/
theorem checkEvent_payload (s : State) (offset i : Nat) (passed : ∀ j, j < i → payloadCheck s offset j = none) :
    checkEvent (eventBefore s offset i) (payloadEvent s offset i) =
      (payloadCheck s offset i).elim (.ok (eventOf (payloadEvent s offset i))) .error := by
  cases i with
  | zero => exact checkEvent_first _
  | succ i => exact checkEvent_after _ (kindOk_of_passed (passed i (Nat.lt_succ_self i)))

/-- The next events of a payload, `n` of them from event `i` on. -/
def eventsFrom (s : State) (offset i n : Nat) : List RawEvent := (List.range' i n).map (payloadEvent s offset)

/-- The events of a whole payload, as the statements write them. -/
theorem eventsFrom_zero (s : State) (offset n : Nat) :
    (eventsFrom s offset 0 n).map eventOf = (List.range n).map fun i => eventOf (payloadEvent s offset i) := by
  unfold eventsFrom
  rw [List.map_map, ← List.range_eq_range']
  rfl

theorem eventsFrom_succ (s : State) (offset i n : Nat) :
    eventsFrom s offset i (n + 1) = payloadEvent s offset i :: eventsFrom s offset (i + 1) n := rfl

theorem checkEvents_passed {prev : Option TideEvent} {r : RawEvent} {e : TideEvent} (h : checkEvent prev r = .ok e)
    (i : Nat) (rest : List RawEvent) :
    checkEvents prev i (r :: rest) = (checkEvents (some e) (i + 1) rest).map (e :: ·) := by
  rw [checkEvents, h]
  dsimp only
  cases checkEvents (some e) (i + 1) rest <;> rfl

theorem checkEvents_failed {prev : Option TideEvent} {r : RawEvent} {n : Nat} (h : checkEvent prev r = .error n)
    (i : Nat) (rest : List RawEvent) : checkEvents prev i (r :: rest) = .error (i, n) := by
  rw [checkEvents, h]

/-- Events that all pass give the edition that their words spell. -/
theorem checkEvents_allPass (s : State) (offset n i : Nat) (passed : ∀ j, j < i + n → payloadCheck s offset j = none) :
    checkEvents (eventBefore s offset i) i (eventsFrom s offset i n) = .ok ((eventsFrom s offset i n).map eventOf) := by
  induction n generalizing i with
  | zero => rfl
  | succ n ih =>
    have head := checkEvent_payload s offset i fun j hj => passed j (by omega)
    rw [passed i (by omega)] at head
    have tail := ih (i + 1) fun j hj => passed j (by omega)
    rw [eventsFrom_succ, checkEvents_passed head]
    exact congrArg (Except.map _) tail

/-- The first event that fails a check refuses the payload, with its index and the check. -/
theorem checkEvents_firstFails (s : State) (offset n i m k : Nat) (hi : i ≤ m) (hm : m < i + n)
    (passed : ∀ j, j < m → payloadCheck s offset j = none) (fails : payloadCheck s offset m = some k) :
    checkEvents (eventBefore s offset i) i (eventsFrom s offset i n) = .error (m, k) := by
  induction n generalizing i with
  | zero => omega
  | succ n ih =>
    have head := checkEvent_payload s offset i fun j hj => passed j (by omega)
    rw [eventsFrom_succ]
    by_cases here : i = m
    · subst here
      rw [fails] at head
      exact checkEvents_failed head _ _
    · rw [passed i (by omega)] at head
      have tail := ih (i + 1) (by omega) (by omega)
      rw [checkEvents_passed head]
      exact congrArg (Except.map _) tail

/-! ## LOAD_TIDE (R70, R72) -/

theorem words_succ (s : State) (a k : Nat) : s.words a (k + 1) = s.memWord a :: s.words (a + 1) k := by
  unfold State.words
  rw [List.range_succ_eq_map, List.map_cons, List.map_map]
  refine congrArg _ (List.map_congr_left fun i _ => ?_)
  rw [Function.comp_apply, Nat.add_assoc, Nat.add_comm 1 i]

theorem words_four (s : State) (a k : Nat) :
    s.words a (k + 4) = s.memWord a :: s.memWord (a + 1) :: s.memWord (a + 2) :: s.memWord (a + 3) :: s.words (a + 4) k := by
  rw [words_succ, words_succ, words_succ, words_succ]

/-- The payload's words cut into events. -/
theorem rawEvents_words (s : State) (offset n i : Nat) :
    rawEvents (s.words (offset + 4 * i) (4 * n)) = eventsFrom s offset i n := by
  induction n generalizing i with
  | zero => rfl
  | succ n ih =>
    have tail : s.words (offset + 4 * i + 4) (4 * n) = s.words (offset + 4 * (i + 1)) (4 * n) := by
      rw [Nat.mul_succ, Nat.add_assoc]
    rw [Nat.mul_succ, words_four, tail, rawEvents, ih, eventsFrom_succ]
    rfl

/-- The two argument checks of R70. -/
def PayloadFits (offset count : Nat) : Prop :=
  1 ≤ count ∧ count ≤ 64 ∧ 0x400 ≤ offset ∧ offset + 4 * count ≤ 16384

theorem payloadFits_iff (offset count : Nat) : payloadFits offset count = true ↔ PayloadFits offset count := by
  unfold payloadFits PayloadFits bulkStart memEnd
  simp only [Bool.and_eq_true, decide_eq_true_eq, and_assoc]

/-- The working copy of a LOAD_TIDE that passes the argument checks holds the payload (R10). -/
theorem copyEntry_payload (s : State) (e : Entry) (kind : s.entryWord e 1 = word 0x08)
    (fits : PayloadFits (argNum s e 3) (argNum s e 4)) :
    rawEvents (s.copyEntry e).payload = eventsFrom s (argNum s e 3) 0 (argNum s e 4) := by
  have payload : (s.copyEntry e).payload = s.words (argNum s e 3) (4 * argNum s e 4) := by
    refine if_pos ⟨?_, (payloadFits_iff _ _).mpr fits⟩
    rw [kind]
    rfl
  rw [payload]
  exact rawEvents_words s _ _ 0

section
variable {o : WorkingCopy} (s : State)

theorem loadTideRule_count (h : o.num 4 = 0 ∨ 64 < o.num 4) :
    loadTideRule o s = (s, .badArgument, [word 65535, word 1]) := if_pos (by omega)

theorem loadTideRule_outside (one : 1 ≤ o.num 4) (most : o.num 4 ≤ 64)
    (h : o.num 3 < 0x400 ∨ 16384 < o.num 3 + 4 * o.num 4) :
    loadTideRule o s = (s, .badArgument, [word 65535, word 2]) :=
  (if_neg (by omega)).trans (if_pos h)

/-- What a LOAD_TIDE with its arguments in range answers to the outcome of its payload's checks (R71, R72). -/
def loadTideAnswer (s : State) : Except (Nat × Nat) (List TideEvent) → Reply
  | .error (i, n) => (s, .badArgument, [word i, word n])
  | .ok events =>
    (s.setTide (s.tide.setEdition s.tide.live.other events), .ok,
      [word events.length, word s.tide.live.other.code, word s.tide.spareEdition.length])

/-- Accepted events stand in the spare edition alone (R72). -/
theorem loadTideAnswer_ok {spare : Edition} {s : State} (h : s.tide.live.other = spare) (events : List TideEvent) :
    loadTideAnswer s (.ok events) =
      (s.setTide (s.tide.setEdition spare events), .ok,
        [word events.length, word spare.code, word (s.tide.edition spare).length]) := by
  subst h
  rfl

theorem loadTideRule_fits (fits : PayloadFits (o.num 3) (o.num 4)) :
    loadTideRule o s = loadTideAnswer s (checkEvents none 0 (rawEvents o.payload)) := by
  obtain ⟨one, most, bulk, inside⟩ := fits
  unfold loadTideRule
  rw [if_neg (by omega), if_neg (by unfold bulkStart memEnd; omega)]
  cases checkEvents none 0 (rawEvents o.payload) <;> rfl

end

end Sys2Proof

open Sys2Proof Sys2Proof.Machine

/-- Settles O38: the argument checks, then the payload cut into events and each event's checks read off its words. -/
theorem loadTideChecksAndReplacesSpare : Obligations.LoadTideChecksAndReplacesSpare := by
  intro s e rest h offset count fits loaded
  have num3 : (s.copyEntry e).num 3 = offset := copyEntry_argNum s e 3 (by omega) (by omega)
  have num4 : (s.copyEntry e).num 4 = count := copyEntry_argNum s e 4 (by omega) (by omega)
  have ends : ∀ {t r answers}, loadTideRule (s.copyEntry e) (takenState s e rest) = (t, r, answers) →
      Ends .loadTide s e r answers t := fun hr => ends_of_rule (fun _ => rfl) rfl h hr
  have rule : fits → loadTideRule (s.copyEntry e) (takenState s e rest) =
      loadTideAnswer (takenState s e rest) (checkEvents none 0 (eventsFrom s offset 0 count)) := fun inRange => by
    obtain ⟨-, -, kind⟩ := h
    rw [← copyEntry_payload s e kind inRange]
    exact loadTideRule_fits _ (num3.symm ▸ num4.symm ▸ inRange)
  refine ⟨fun bad => ends ?_, fun one most bad => ends ?_, fun i n inRange hi passed fails => ends ?_,
    fun inRange passed => ?_⟩
  · exact loadTideRule_count _ (num4.symm ▸ bad)
  · exact loadTideRule_outside _ (num4.symm ▸ one) (num4.symm ▸ most) (num3.symm ▸ num4.symm ▸ bad)
  · have checks : checkEvents none 0 (eventsFrom s offset 0 count) = .error (i, n) :=
      checkEvents_firstFails s offset count 0 i n (Nat.zero_le i) (by omega) passed fails
    rw [rule inRange, checks]
    rfl
  · have checks : checkEvents none 0 (eventsFrom s offset 0 count) = .ok loaded :=
      (checkEvents_allPass s offset count 0 fun j hj => passed j (by omega)).trans
        (congrArg Except.ok (eventsFrom_zero s offset count))
    have size : loaded.length = count := by simp [loaded]
    have stored : ∀ spare, s.tide.live.other = spare →
        Ends .loadTide s e .ok [word count, word spare.code, word (s.tide.edition spare).length]
          ((takenState s e rest).setTide (s.tide.setEdition spare loaded)) := fun spare other => ends (by
      rw [rule inRange, checks, loadTideAnswer_ok (s := takenState s e rest) other, size]
      rfl)
    exact ⟨fun live => stored .b (congrArg Edition.other live), fun live => stored .a (congrArg Edition.other live)⟩

end

/-!
# Swaps and events of the tide unit

A recomputation is followed once, with the flag that its changes set; SWAP_TIDE and the three events are each one.
-/

section
namespace Sys2Proof

open Sys2Proof.Machine

/-! ## A recomputation and TIDE (R79) -/

/-- A recomputation makes the status NONE or the short mark set (R79). -/
def TurnsNoneOrShort (old new : Tide) : Prop :=
  (old.valid = true ∧ new.valid = false) ∨ (old.short = false ∧ new.short = true)

theorem tideAlert_iff (old new : Tide) : tideAlert old new = true ↔ TurnsNoneOrShort old new := by
  simp [tideAlert, TurnsNoneOrShort]

theorem recompute_alerts {t : Tide} (s : State) (h : TurnsNoneOrShort t t.recomputed) :
    s.recompute t = withFlag { s with tide := t.recomputed } .tide := by
  unfold State.recompute
  rw [(tideAlert_iff _ _).mpr h]
  rfl

theorem recompute_silent {t : Tide} (s : State) (h : ¬TurnsNoneOrShort t t.recomputed) :
    s.recompute t = { s with tide := t.recomputed } := by
  have quiet : tideAlert t t.recomputed = false := Bool.eq_false_iff.mpr (mt (tideAlert_iff _ _).mp h)
  unfold State.recompute
  rw [quiet]
  rfl

theorem recompute_tide (t : Tide) (s : State) : (s.recompute t).tide = t.recomputed := by rw [recompute_eq]

theorem recompute_wires (t : Tide) (s : State) : (s.recompute t).wires = s.wires := by rw [recompute_eq]

/-! ## SWAP_TIDE (R73, R74) -/

/-- The tide unit with its live select flipped. -/
def flipped (t : Tide) : Tide := { t with live := t.live.other }

/-- The answer of an accepted swap. -/
def swapAnswer (t : Tide) : List Word :=
  [word t.live.other.code, word t.spareEdition.length, word (bit (flipped t).recomputed.valid)]

/-- The edition-change event of a state whose messages on their way are those of `s`. -/
theorem sendEditionChange_eq {s t : State} {e : Edition} (wires : t.wires = s.wires) (live : t.tide.live = e) :
    t.sendEditionChange =
      { t with wires := { s.wires with editionChanges := s.wires.editionChanges ++ [e] } } := by
  unfold State.sendEditionChange
  rw [wires, live]

theorem swapTideRule_empty (o : WorkingCopy) (s : State) (h : s.tide.spareEdition = []) :
    swapTideRule o s = refuse .wrongState s := if_pos (by rw [h]; rfl)

/-- An accepted swap is a recomputation with the live select flipped, and its edition-change event. -/
theorem swapTideRule_full (o : WorkingCopy) (s : State) (h : s.tide.spareEdition ≠ []) :
    swapTideRule o s = reply (swapAnswer s.tide)
      { s.recompute (flipped s.tide) with
        wires := { s.wires with editionChanges := s.wires.editionChanges ++ [s.tide.live.other] } } := by
  have live : (s.recompute (flipped s.tide)).tide.live = s.tide.live.other := by
    obtain ⟨-, -, kept, -, -⟩ := recomputed_keeps (flipped s.tide)
    rw [recompute_tide, kept]
    rfl
  have answer : [word (s.recompute (flipped s.tide)).tide.live.code,
      word (s.recompute (flipped s.tide)).tide.liveEdition.length,
      word (bit (s.recompute (flipped s.tide)).tide.valid)] = swapAnswer s.tide := by
    rw [live, recompute_tide, recomputed_liveEdition]
    rfl
  exact (if_neg (by simpa using h)).trans
    (congrArg₂ reply answer (sendEditionChange_eq (recompute_wires (flipped s.tide) s) live))

/-- The take of a SWAP_TIDE that need not wait ends with what its rule gives. -/
theorem ends_of_swap {s : State} {e : Entry} {rest : List Entry} {t : State} {r : OrderResult} {answers : List Word}
    (h : AtHead s e rest 0x09) (due : s.takeSwap = s.takeImmediate .swapTide swapTideRule)
    (hr : swapTideRule (s.copyEntry e) (takenState s e rest) = (t, r, answers)) : Ends .swapTide s e r answers t := by
  refine congrArg Host.Outcome.next ?_
  rw [due, takeImmediate_atHead s e rest 0x09 .swapTide swapTideRule h rfl, hr]
  rfl

/-! ## The events (R69, R80, R81, R82) -/

/-- A delivered event recomputes from the record that it loads. -/
def recomputedAt (s : State) (old : Tide) (rest : List TimeEvent) : State :=
  { s with wires := { s.wires with toTide := rest } }.recompute old

theorem minuteEventTide_head {s : State} (run : s.phase = .running) {m : MinuteEvent} {rest : List TimeEvent}
    (hw : s.wires.toTide = .minute m :: rest) :
    s.minuteEventTide = recomputedAt s { s.tide with now := m.count, suspect := m.suspect } rest := by
  unfold State.minuteEventTide
  rw [s.whenRunning_running _ run, hw]
  rfl

theorem timeSetEventTide_head {s : State} (run : s.phase = .running) {old new : Nat} {mark : Bool} {rest : List TimeEvent}
    (hw : s.wires.toTide = .timeSet old new mark :: rest) :
    s.timeSetEventTide = recomputedAt s { s.tide with now := new, suspect := mark } rest := by
  unfold State.timeSetEventTide
  rw [s.whenRunning_running _ run, hw]
  rfl

theorem suspectChangeEventTide_head {s : State} (run : s.phase = .running) {mark : Bool} {rest : List TimeEvent}
    (hw : s.wires.toTide = .suspectChange mark :: rest) :
    s.suspectChangeEventTide = recomputedAt s { s.tide with suspect := mark } rest := by
  unfold State.suspectChangeEventTide
  rw [s.whenRunning_running _ run, hw]
  rfl

end Sys2Proof

open Sys2Proof Sys2Proof.Machine

/-- Settles O39: a swap by its spare edition and the event on its way, each event by the copies that it loads, and TIDE by what
the recomputation changes. -/
theorem swapAndTideEventsRecompute : Obligations.SwapAndTideEventsRecompute := by
  refine ⟨fun s e rest h => ?_, fun s run => ?_⟩
  · have other : (if s.tide.live = .a then .b else .a) = s.tide.live.other := by cases s.tide.live <;> rfl
    have spare : (if s.tide.live = .a then s.tide.editionB else s.tide.editionA) = s.tide.spareEdition := by
      unfold Tide.spareEdition
      cases s.tide.live <;> rfl
    rw [other, spare]
    refine ⟨fun empty => ?_, fun full early => ?_, fun full free turns => ?_, fun full free stays => ?_⟩
    · exact ends_of_swap h (takeSwap_empty s empty) (swapTideRule_empty _ _ empty)
    · exact congrArg Host.Outcome.next (takeSwap_waits s early full)
    · have rule := swapTideRule_full (s.copyEntry e) (takenState s e rest) full
      rw [takenState_tide, takenState_wires, free, recompute_alerts (t := flipped s.tide) _ turns] at rule
      exact ends_of_swap h (takeSwap_free s free) rule
    · have rule := swapTideRule_full (s.copyEntry e) (takenState s e rest) full
      rw [takenState_tide, takenState_wires, free, recompute_silent (t := flipped s.tide) _ stays] at rule
      exact ends_of_swap h (takeSwap_free s free) rule
  · intro after
    have delivered : ∀ (old : Tide) (rest : List TimeEvent), old.valid = s.tide.valid → old.short = s.tide.short →
        after old rest (.next (recomputedAt s old rest)) := fun old rest valid short => by
      simp only [after, ← valid, ← short]
      exact ⟨fun turns => congrArg Host.Outcome.next (recompute_alerts _ turns),
        fun stays => congrArg Host.Outcome.next (recompute_silent _ stays)⟩
    refine ⟨fun m rest hw => ?_, fun old new mark rest hw => ?_, fun mark rest hw => ?_⟩
    · have event : exec .minuteEventTide s = .next _ := congrArg Host.Outcome.next (minuteEventTide_head run hw)
      exact event ▸ delivered _ rest rfl rfl
    · have event : exec .timeSetEventTide s = .next _ := congrArg Host.Outcome.next (timeSetEventTide_head run hw)
      exact event ▸ delivered _ rest rfl rfl
    · have event : exec .suspectChangeEventTide s = .next _ :=
        congrArg Host.Outcome.next (suspectChangeEventTide_head run hw)
      exact event ▸ delivered _ rest rfl rfl

end

/-!
# One measured alarm at an evaluation; the floor and the hold state

The conditions by their kinds, an evaluation by the alarm's state, and the floor as the library's minimum of what the active
alarms contribute.
-/

section
namespace Sys2Proof

open Sys2Proof.Machine

/-! ## Raise and clear conditions (R87) -/

theorem high_iff (k : AlarmKind) : k.high = true ↔ k = .levelHigh ∨ k = .surgeHigh ∨ k = .riseRate := by
  cases k <;> decide

theorem raiseHolds_iff (a : Alarm) (v : Int) :
    a.raiseHolds v = true ↔ (a.kind.high = true → a.threshold ≤ v) ∧ (¬a.kind.high = true → v ≤ a.threshold) := by
  unfold Alarm.raiseHolds
  by_cases high : a.kind.high = true <;> simp [high]

theorem clearHolds_iff (a : Alarm) (v : Int) :
    a.clearHolds v = true ↔
      (a.kind.high = true → v < a.threshold - a.hysteresis) ∧ (¬a.kind.high = true → a.threshold + a.hysteresis < v) := by
  unfold Alarm.clearHolds
  by_cases high : a.kind.high = true <;> simp [high]

/-! ## An evaluation with an input, by state (R89 to R91) -/

section evaluate
variable {a : Alarm} {v : Int}

theorem run_raises {counted : Nat} (now : Nat) (h : a.raiseHolds v = true) (full : counted = a.persistence) :
    a.run now counted v = a.raise now := (if_pos h).trans (if_pos full)

theorem run_counts {counted : Nat} (now : Nat) (h : a.raiseHolds v = true) (short : counted ≠ a.persistence) :
    a.run now counted v = .still { a with state := .pending, count := counted } := (if_pos h).trans (if_neg short)

theorem run_ends (now counted : Nat) (h : ¬a.raiseHolds v = true) :
    a.run now counted v = .still { a with state := .quiet, count := 0 } := if_neg h

variable (now : Nat) (v)

theorem evaluate_quiet (h : a.state = .quiet) : a.evaluate now v = a.run now 1 v := by
  unfold Alarm.evaluate
  rw [h]

theorem evaluate_pending (h : a.state = .pending) : a.evaluate now v = a.run now (a.count + 1) v := by
  unfold Alarm.evaluate
  rw [h]

theorem evaluate_raised (h : a.state = .raised) :
    a.evaluate now v = .still (if a.clearHolds v then { a with state := .clearedUnack } else a) := by
  unfold Alarm.evaluate
  rw [h]

theorem evaluate_standing (h : a.state = .standing) :
    a.evaluate now v = .still (if a.clearHolds v then { a with state := .quiet } else a) := by
  unfold Alarm.evaluate
  rw [h]

theorem evaluate_clearedUnack (h : a.state = .clearedUnack) :
    a.evaluate now v = if a.raiseHolds v then a.raise now else .still a := by
  unfold Alarm.evaluate
  rw [h]

end evaluate

/-! ## An evaluation with the input lost (R93) -/

theorem lose_pending {a : Alarm} (h : a.state = .pending) :
    a.lose = .still { a with inputLost := true, state := .quiet, count := 0 } := by
  unfold Alarm.lose
  rw [h]

/-- A loss leaves every state but PENDING. -/
theorem lose_kept {a : Alarm} (h : a.state ≠ .pending) : a.lose = .still { a with inputLost := true } := by
  unfold Alarm.lose
  split
  case h_1 pending => exact absurd pending h
  all_goals rfl

/-! ## Floor and hold state (R102, R103) -/

theorem active_iff (a : Alarm) : a.active = true ↔ a.enabled = true ∧ (a.state = .raised ∨ a.state = .standing) := by
  simp [Alarm.active]

theorem floorPart_iff (a : Alarm) (f : Nat) :
    a.floorPart = some f ↔ (a.active = true ∧ a.actions.derate = true) ∧ a.derateValue = f := by
  simp [Alarm.floorPart]

/-- Absent values do not count in a fold for the least. -/
theorem leastFloor_foldr {α : Type} (g : α → Option Nat) (l : List α) :
    l.foldr (fun i acc => leastFloor (g i) acc) none = leastInstant (l.filterMap g) := by
  induction l with
  | nil => rfl
  | cons x l ih =>
    rw [List.foldr_cons, ih, List.filterMap_cons]
    cases g x <;> rfl

/-- What the alarms contribute to the floor, in number order. -/
def floorParts (u : AlarmUnit) : List Nat := (List.finRange 16).filterMap fun i => (sel u.records i).floorPart

theorem floor_eq (u : AlarmUnit) : u.floor = (floorParts u).min? :=
  (leastFloor_foldr _ _).trans (leastInstant_eq _)

theorem mem_floorParts (u : AlarmUnit) (f : Nat) : f ∈ floorParts u ↔ ∃ i, (sel u.records i).floorPart = some f := by
  simp [floorParts]

theorem holdState_iff (u : AlarmUnit) :
    u.holdState = true ↔ ∃ i, (sel u.records i).active = true ∧ (sel u.records i).actions.holdRotation = true := by
  simp [AlarmUnit.holdState]

end Sys2Proof

open Sys2Proof Sys2Proof.Machine

/-- Settles O42: an evaluation by the alarm's state and its conditions, the floor as a minimum, and the hold state alarm by
alarm. -/
theorem measuredEvaluationByState : Obligations.MeasuredEvaluationByState := by
  refine ⟨fun now v a _ => ?_, fun u => ?_⟩
  · intro high raise clear b raised becomes
    have raises : b.raiseHolds v = true ↔ raise := by
      rw [raiseHolds_iff, high_iff]
    have clears : b.clearHolds v = true ↔ clear := by
      rw [clearHolds_iff, high_iff]
    refine ⟨fun st holds one => ?_, fun st holds more => ?_, fun st fails => ?_, fun st holds full => ?_,
      fun st holds short => ?_, fun st fails => ?_, fun st holds => ?_, fun st fails => ?_, fun st holds => ?_,
      fun st fails => ?_, fun st holds => ?_, fun st fails => ?_, fun st => lose_pending st, fun st => lose_kept st⟩
    · exact (evaluate_quiet (a := b) v now st).trans (run_raises now (raises.mpr holds) one.symm)
    · exact (evaluate_quiet (a := b) v now st).trans (run_counts now (raises.mpr holds) more.symm)
    · refine (evaluate_quiet (a := b) v now st).trans ((run_ends now 1 (mt raises.mp fails)).trans ?_)
      rw [← st]
      rfl
    · exact (evaluate_pending (a := b) v now st).trans (run_raises now (raises.mpr holds) full)
    · refine (evaluate_pending (a := b) v now st).trans ((run_counts now (raises.mpr holds) short).trans ?_)
      rw [← st]
      rfl
    · exact (evaluate_pending (a := b) v now st).trans (run_ends now _ (mt raises.mp fails))
    · exact (evaluate_raised (a := b) v now st).trans (congrArg _ (if_pos (clears.mpr holds)))
    · exact (evaluate_raised (a := b) v now st).trans (congrArg _ (if_neg (mt clears.mp fails)))
    · exact (evaluate_standing (a := b) v now st).trans (congrArg _ (if_pos (clears.mpr holds)))
    · exact (evaluate_standing (a := b) v now st).trans (congrArg _ (if_neg (mt clears.mp fails)))
    · exact (evaluate_clearedUnack (a := b) v now st).trans (if_pos (raises.mpr holds))
    · exact (evaluate_clearedUnack (a := b) v now st).trans (if_neg (mt raises.mp fails))
  · intro active derates
    have parts : ∀ f, f ∈ floorParts u ↔ ∃ i, derates i ∧ (sel u.records i).derateValue = f := fun f => by
      simp only [mem_floorParts, floorPart_iff, active_iff]
      rfl
    refine ⟨?_, fun f => ?_, ?_⟩
    · rw [floor_eq, List.min?_eq_none_iff, List.eq_nil_iff_forall_not_mem]
      exact ⟨fun none i d => none _ ((parts _).mpr ⟨i, d, rfl⟩),
        fun none f mem => let ⟨i, d, _⟩ := (parts f).mp mem; none i d⟩
    · rw [floor_eq, List.min?_eq_some_iff, parts]
      refine and_congr_right fun _ => ⟨fun least i d => least _ ((parts _).mpr ⟨i, d, rfl⟩), fun least g mem => ?_⟩
      obtain ⟨i, d, rfl⟩ := (parts g).mp mem
      exact least i d
    · simp only [holdState_iff, active_iff]
      rfl

end

/-!
# ACK_ALARM

A mask holds the bits of the numbers that it is built from, and an acknowledgement leaves what an alarm contributes to the
floor and the hold state.
-/

section
namespace Sys2Proof

open Sys2Proof.Machine

/-! ## Masks of alarms (R108) -/

/-- The bits of a sum of distinct powers of two, by the library's list of bit indices. -/
theorem testBit_sum_two_pow {l : List Nat} (h : l.SortedLT) (i : Nat) :
    (l.map fun j => 2 ^ j).sum.testBit i = true ↔ i ∈ l := by
  rw [← Nat.mem_bitIndices, Nat.bitIndices_sum_map_two_pow h]

theorem alarmMask_eq (p : Fin 16 → Bool) :
    alarmMask p = word (((indices p).map Fin.val).map fun j => 2 ^ j).sum := by
  rw [List.sum_eq_foldl, List.map_map, List.foldl_map]
  rfl

theorem indices_sorted {n : Nat} (p : Fin n → Bool) : ((indices p).map Fin.val).SortedLT := by
  have rising : (indices p).Pairwise fun i j => i.1 < j.1 := (List.sortedLT_finRange n).pairwise.filter p
  exact (List.pairwise_map.mpr rising).sortedLT

/-- A mask of alarms has the bit of each alarm that it is made for, and no other. -/
theorem alarmMask_getLsbD (p : Fin 16 → Bool) (i : Fin 16) : (alarmMask p).getLsbD i.1 = true ↔ p i = true := by
  rw [alarmMask_eq, word, BitVec.getLsbD_ofNat, decide_eq_true i.2, Bool.true_and,
    testBit_sum_two_pow (indices_sorted p)]
  simp [indices, Fin.val_inj]

/-! ## An acknowledgement of one alarm (R92) -/

theorem ack_raised {a : Alarm} (h : a.state = .raised) : a.ack = { a with state := .standing } := by
  unfold Alarm.ack
  rw [h]

theorem ack_clearedUnack {a : Alarm} (h : a.state = .clearedUnack) : a.ack = { a with state := .quiet } := by
  unfold Alarm.ack
  rw [h]

theorem ack_other {a : Alarm} (raised : a.state ≠ .raised) (cleared : a.state ≠ .clearedUnack) : a.ack = a := by
  unfold Alarm.ack
  split
  case h_1 h => exact absurd h raised
  case h_2 h => exact absurd h cleared
  all_goals rfl

/-- An acknowledgement leaves an alarm's actions, and active as they were: RAISED and STANDING both are, CLEARED_UNACK and QUIET
neither. -/
theorem ack_actions (a : Alarm) :
    a.ack.active = a.active ∧ a.ack.actions = a.actions ∧ a.ack.derateValue = a.derateValue := by
  by_cases raised : a.state = .raised
  · rw [ack_raised raised]
    exact ⟨by rw [Alarm.active, Alarm.active, raised]; rfl, rfl, rfl⟩
  by_cases cleared : a.state = .clearedUnack
  · rw [ack_clearedUnack cleared]
    exact ⟨by rw [Alarm.active, Alarm.active, cleared]; rfl, rfl, rfl⟩
  · rw [ack_other raised cleared]
    exact ⟨rfl, rfl, rfl⟩

/-- Alarms alike in what is active give one floor and one hold state (R103). -/
theorem floor_holdState_congr {u v : AlarmUnit}
    (h : ∀ i, (sel u.records i).active = (sel v.records i).active ∧ (sel u.records i).actions = (sel v.records i).actions ∧
      (sel u.records i).derateValue = (sel v.records i).derateValue) :
    u.floor = v.floor ∧ u.holdState = v.holdState := by
  have part : ∀ i, (sel u.records i).floorPart = (sel v.records i).floorPart := fun i => by
    obtain ⟨active, actions, value⟩ := h i
    rw [Alarm.floorPart, Alarm.floorPart, active, actions, value]
  have hold : ∀ i, ((sel u.records i).active && (sel u.records i).actions.holdRotation) =
      ((sel v.records i).active && (sel v.records i).actions.holdRotation) := fun i => by
    obtain ⟨active, actions, -⟩ := h i
    rw [active, actions]
  simp only [AlarmUnit.floor, AlarmUnit.holdState, part, hold, and_self]

/-! ## The alarms that a mask selects (R108) -/

/-- The alarm unit with the alarms of a mask acknowledged. -/
def acknowledged (mask : Word) (u : AlarmUnit) : AlarmUnit :=
  { u with records := tab fun i => if mask.getLsbD i.1 then (sel u.records i).ack else sel u.records i }

theorem acknowledged_masked {mask : Word} {i : Fin 16} (u : AlarmUnit) (h : mask.getLsbD i.1 = true) :
    sel (acknowledged mask u).records i = (sel u.records i).ack := (sel_tab _ i).trans (if_pos h)

theorem acknowledged_unmasked {mask : Word} {i : Fin 16} (u : AlarmUnit) (h : ¬mask.getLsbD i.1 = true) :
    sel (acknowledged mask u).records i = sel u.records i := (sel_tab _ i).trans (if_neg h)

theorem acknowledged_floor (mask : Word) (u : AlarmUnit) :
    (acknowledged mask u).floor = u.floor ∧ (acknowledged mask u).holdState = u.holdState := by
  refine floor_holdState_congr fun i => ?_
  by_cases masked : mask.getLsbD i.1 = true
  · rw [acknowledged_masked u masked]
    exact ack_actions _
  · rw [acknowledged_unmasked u masked]
    exact ⟨rfl, rfl, rfl⟩

/-- The mask of the alarms that an acknowledgement moves. -/
def movedMask (mask : Word) (u : AlarmUnit) : Word :=
  alarmMask fun i =>
    mask.getLsbD i.1 && ((sel u.records i).state == .raised || (sel u.records i).state == .clearedUnack)

/-- The mask of the alarms that an acknowledgement makes stand. -/
def stoodMask (mask : Word) (u : AlarmUnit) : Word :=
  alarmMask fun i => mask.getLsbD i.1 && (sel u.records i).state == .raised

theorem movedMask_getLsbD (mask : Word) (u : AlarmUnit) (i : Fin 16) :
    (movedMask mask u).getLsbD i.1 = true ↔
      mask.getLsbD i.1 = true ∧ ((sel u.records i).state = .raised ∨ (sel u.records i).state = .clearedUnack) := by
  rw [movedMask, alarmMask_getLsbD, Bool.and_eq_true, Bool.or_eq_true, beq_iff_eq, beq_iff_eq]

theorem stoodMask_getLsbD (mask : Word) (u : AlarmUnit) (i : Fin 16) :
    (stoodMask mask u).getLsbD i.1 = true ↔ mask.getLsbD i.1 = true ∧ (sel u.records i).state = .raised := by
  rw [stoodMask, alarmMask_getLsbD, Bool.and_eq_true, beq_iff_eq]

theorem ackAlarmRule_eq (o : WorkingCopy) (s : State) :
    ackAlarmRule o s = reply [movedMask (o.arg 3) s.alarm, stoodMask (o.arg 3) s.alarm]
      { s with alarm := acknowledged (o.arg 3) s.alarm } := rfl

end Sys2Proof

open Sys2Proof Sys2Proof.Machine

/-- Settles O41: each alarm by whether it is masked and by its state, and the masks bit by bit. -/
theorem ackAlarmMovesMaskedAlarms : Obligations.AckAlarmMovesMaskedAlarms := by
  intro s e rest h masked before
  have arg : (s.copyEntry e).arg 3 = argWord s e 3 := copyEntry_argWord s e 3 (by omega) (by omega)
  obtain ⟨floor, hold⟩ := acknowledged_floor (argWord s e 3) s.alarm
  refine ⟨movedMask (argWord s e 3) s.alarm, stoodMask (argWord s e 3) s.alarm, acknowledged (argWord s e 3) s.alarm,
    ends_of_rule (fun _ => rfl) rfl h ?_, rfl, rfl, floor, hold, fun i => ⟨fun on raised => ?_, fun on cleared => ?_,
      fun kept => ?_, movedMask_getLsbD _ _ i, stoodMask_getLsbD _ _ i⟩⟩
  · rw [ackAlarmRule_eq, arg]
    rfl
  · exact (acknowledged_masked s.alarm on).trans (ack_raised raised)
  · exact (acknowledged_masked s.alarm on).trans (ack_clearedUnack cleared)
  · by_cases on : masked i
    · exact (acknowledged_masked s.alarm on).trans
        (ack_other (fun raised => kept ⟨on, Or.inl raised⟩) fun cleared => kept ⟨on, Or.inr cleared⟩)
    · exact acknowledged_unmasked s.alarm on

end

/-!
# SET_ALARM

The checks of R106 as the rule makes them, kind by kind, and the record that the words give; then the arming of it and the
action-change event.
-/

section
namespace Sys2Proof

open Sys2Proof.Machine

/-! ## Codes of the arguments (R198) -/

theorem alarmKind_ofWord {w : Word} {k : AlarmKind} (h : w.toNat = k.code) : AlarmKind.ofWord w = some k := by
  unfold AlarmKind.ofWord
  rw [h]
  cases k <;> rfl

theorem alarmKind_none {w : Word} (h : 7 < w.toNat) : AlarmKind.ofWord w = none := by
  unfold AlarmKind.ofWord
  split
  case h_9 => rfl
  all_goals omega

theorem which_some {w : Word} (low : 1 ≤ w.toNat) (high : w.toNat ≤ 3) :
    Which.ofWord w = some (if w.toNat = 1 then .high else if w.toNat = 2 then .low else .both) := by
  unfold Which.ofWord
  rcases (by omega : w.toNat = 1 ∨ w.toNat = 2 ∨ w.toNat = 3) with hw | hw | hw <;> rw [hw] <;> rfl

theorem which_none {w : Word} (h : ¬(1 ≤ w.toNat ∧ w.toNat ≤ 3)) : Which.ofWord w = none := by
  unfold Which.ofWord
  split
  case h_4 => rfl
  all_goals omega

theorem clockMode_none {w : Word} (h : 1 < w.toNat) : ClockMode.ofWord w = none := by
  unfold ClockMode.ofWord
  split
  case h_3 => rfl
  all_goals omega

theorem clockMode_weekdays {w : Word} (h : w.toNat = 0) : ClockMode.ofWord w = some .weekdays := by
  unfold ClockMode.ofWord
  rw [h]
  rfl

theorem clockMode_date {w : Word} (h : w.toNat = 1) : ClockMode.ofWord w = some .date := by
  unfold ClockMode.ofWord
  rw [h]
  rfl

/-! ## What SET_ALARM's words ask for (R106, R107) -/

/-- The action set of the words, if its bits beyond the three are clear. -/
def askedActions (o : WorkingCopy) : ActionSet :=
  { washAll := (o.arg 9).getLsbD 0, derate := (o.arg 9).getLsbD 1, holdRotation := (o.arg 9).getLsbD 2 }

/-- Check 5 of R106. -/
def MeasuredArgsOk (o : WorkingCopy) : Prop :=
  o.num 7 ≤ 1000 ∧ 1 ≤ o.num 8 ∧ o.num 8 ≤ 255 ∧ ((o.arg 9).getLsbD 1 = true → o.num 10 ≤ 6)

/-- Checks 6 and 7 of R106. -/
def LeadArgsOk (o : WorkingCopy) : Prop :=
  o.num 9 ≤ 1 ∧ 1 ≤ o.num 11 ∧ o.num 11 ≤ 720 ∧ 1 ≤ o.num 12 ∧ o.num 12 ≤ 3

/-- Checks 6 and 8 of R106. -/
def ClockArgsOk (o : WorkingCopy) : Prop :=
  o.num 9 ≤ 1 ∧ o.num 11 ≤ 23 ∧ o.num 12 ≤ 59 ∧ o.num 13 ≤ 1 ∧ 1 ≤ o.num 14 ∧
    o.num 14 ≤ (if o.num 13 = 0 then 127 else 31)

/-- Checks 3 to 8 of R106 for a kind. -/
def AlarmArgsOk (o : WorkingCopy) (k : AlarmKind) : Prop :=
  (o.num 5 ≤ 1 ∧ o.num 9 ≤ 7) ∧ (k.measured = true → MeasuredArgsOk o) ∧ (k = .tideLead → LeadArgsOk o) ∧
    (k = .clock → ClockArgsOk o)

/-- The record of the words for a kind, in QUIET, every field that the kind does not use at 0 (R107). -/
def askedAlarm (o : WorkingCopy) (k : AlarmKind) : Alarm :=
  { kind := k, enabled := o.num 5 == 1
    threshold := if k.measured = true then o.signed 6 else 0
    hysteresis := if k.measured = true then o.num 7 else 0
    persistence := if k.measured = true then o.num 8 else 1
    actions := askedActions o
    derateValue := if (o.arg 9).getLsbD 1 = true then o.num 10 else 0
    lead := if k = .tideLead then o.num 11 else 0
    which :=
      if k = .tideLead then (if o.num 12 = 1 then .high else if o.num 12 = 2 then .low else .both) else .unused
    hour := if k = .clock then o.num 11 else 0
    minute := if k = .clock then o.num 12 else 0
    mode := if k = .clock ∧ o.num 13 = 1 then .date else .weekdays
    weekdays := if k = .clock ∧ o.num 13 = 0 then (o.arg 14).setWidth 7 else 0
    day := if k = .clock ∧ o.num 13 = 1 then o.num 14 else 0
    state := .quiet, count := 0, raised := none, inputLost := false, armed := none }

/-- An instant kind may have WASH_ALL alone (R106 check 6): a set of three bits without DERATE and HOLD_ROTATION is 0 or 1. -/
theorem instantOk_iff {o : WorkingCopy} (h : o.num 9 ≤ 7) : (askedActions o).instantOk = true ↔ o.num 9 ≤ 1 := by
  have bits : ∀ n < 8, (!n.testBit 1 && !n.testBit 2) = true ↔ n ≤ 1 := by decide
  exact bits (o.num 9) (by omega)

/-- Without DERATE the derate value is 0. -/
theorem noDerate {o : WorkingCopy} (h : o.num 9 ≤ 1) : (if (o.arg 9).getLsbD 1 = true then o.num 10 else 0) = 0 := by
  have bit : ∀ n ≤ 1, ¬n.testBit 1 = true := by decide
  exact if_neg (bit (o.num 9) h)

/-! ## The record of each sort of kind (R106 checks 5 to 8) -/

section record
variable {o : WorkingCopy}

theorem measuredRecord_ok {k : AlarmKind} (hk : k.measured = true) (h : MeasuredArgsOk o) :
    measuredRecord k (o.num 5 == 1) (askedActions o) o = some (askedAlarm o k) := by
  refine (if_pos h).trans (congrArg some ?_)
  cases k
  case tideLead | clock => cases hk
  all_goals rfl

theorem measuredRecord_bad (k : AlarmKind) (h : ¬MeasuredArgsOk o) :
    measuredRecord k (o.num 5 == 1) (askedActions o) o = none := if_neg h

theorem leadRecord_ok (h : LeadArgsOk o) : leadRecord (o.num 5 == 1) (askedActions o) o = some (askedAlarm o .tideLead) := by
  obtain ⟨actions, lead, lead720, which, which3⟩ := h
  unfold leadRecord
  rw [if_pos ⟨(instantOk_iff (by omega)).mpr actions, lead, lead720⟩, which_some which which3, askedAlarm, noDerate actions]
  rfl

theorem leadRecord_bad (ha : o.num 9 ≤ 7) (h : ¬LeadArgsOk o) :
    leadRecord (o.num 5 == 1) (askedActions o) o = none := by
  unfold leadRecord
  split
  · next first =>
    obtain ⟨actions, lead, lead720⟩ := first
    rw [which_none fun which => h ⟨(instantOk_iff ha).mp actions, lead, lead720, which⟩]
    rfl
  · rfl

theorem clockRecord_ok (h : ClockArgsOk o) : clockRecord (o.num 5 == 1) (askedActions o) o = some (askedAlarm o .clock) := by
  obtain ⟨actions, hour, minute, mode, low, high⟩ := h
  unfold clockRecord
  rw [if_pos ⟨(instantOk_iff (by omega)).mpr actions, hour, minute⟩]
  rcases (by omega : o.num 13 = 0 ∨ o.num 13 = 1) with weekly | monthly
  · rw [if_pos weekly] at high
    rw [clockMode_weekdays weekly]
    refine (if_pos ⟨low, high⟩).trans ?_
    rw [askedAlarm, noDerate actions, weekly]
    rfl
  · rw [monthly] at high
    rw [clockMode_date monthly]
    refine (if_pos ⟨low, high⟩).trans ?_
    rw [askedAlarm, noDerate actions, monthly]
    rfl

theorem clockRecord_bad (ha : o.num 9 ≤ 7) (h : ¬ClockArgsOk o) :
    clockRecord (o.num 5 == 1) (askedActions o) o = none := by
  unfold clockRecord
  split
  · next first =>
    obtain ⟨actions, hour, minute⟩ := first
    have last : ¬(o.num 13 ≤ 1 ∧ 1 ≤ o.num 14 ∧ o.num 14 ≤ (if o.num 13 = 0 then 127 else 31)) :=
      fun days => h ⟨(instantOk_iff ha).mp actions, hour, minute, days⟩
    rcases (by omega : o.num 13 = 0 ∨ o.num 13 = 1 ∨ 1 < o.num 13) with weekly | monthly | other
    · rw [clockMode_weekdays weekly]
      exact if_neg fun days => last ⟨by omega, days.1, by rw [if_pos weekly]; exact days.2⟩
    · rw [clockMode_date monthly]
      exact if_neg fun days => last ⟨by omega, days.1, by rw [monthly]; exact days.2⟩
    · rw [clockMode_none other]
  · rfl

/-- With kind, enabled mark and action set named, the record is that of the kind's sort. -/
theorem newAlarm_named {k : AlarmKind} (hk : o.num 4 = k.code) (he : o.num 5 ≤ 1) (ha : o.num 9 ≤ 7) :
    newAlarm o =
      if k.measured then measuredRecord k (o.num 5 == 1) (askedActions o) o
      else if k = .tideLead then leadRecord (o.num 5 == 1) (askedActions o) o
      else clockRecord (o.num 5 == 1) (askedActions o) o := by
  have actions : ActionSet.ofWord (o.arg 9) = some (askedActions o) := if_pos (Nat.lt_succ_of_le ha)
  unfold newAlarm
  rw [alarmKind_ofWord hk, markOfWord_some _ he, actions]
  rfl

theorem newAlarm_unknownKind (h : 7 < o.num 4) : newAlarm o = none := by
  unfold newAlarm
  rw [alarmKind_none h]

/-- An enabled mark or an action set out of range (R106 checks 3 and 4). -/
theorem newAlarm_outOfRange (h : ¬(o.num 5 ≤ 1 ∧ o.num 9 ≤ 7)) : newAlarm o = none := by
  unfold newAlarm
  split
  · next mark actions =>
    refine absurd ⟨?_, ?_⟩ h
    · by_contra above
      cases mark.symm.trans (markOfWord_none _ (Nat.lt_of_not_le above))
    · by_contra above
      cases actions.symm.trans (if_neg fun below => above (Nat.le_of_lt_succ below))
  · rfl

theorem newAlarm_asked {k : AlarmKind} (hk : o.num 4 = k.code) (h : AlarmArgsOk o k) :
    newAlarm o = some (askedAlarm o k) := by
  obtain ⟨⟨enabled, actions⟩, measured, lead, clock⟩ := h
  rw [newAlarm_named hk enabled actions]
  cases k
  case tideLead => exact leadRecord_ok (lead rfl)
  case clock => exact clockRecord_ok (clock rfl)
  all_goals exact measuredRecord_ok rfl (measured rfl)

theorem newAlarm_bad {k : AlarmKind} (hk : o.num 4 = k.code) (h : ¬AlarmArgsOk o k) : newAlarm o = none := by
  by_cases common : o.num 5 ≤ 1 ∧ o.num 9 ≤ 7
  · rw [newAlarm_named hk common.1 common.2]
    cases k
    case tideLead => exact leadRecord_bad common.2 fun ok => h ⟨common, nofun, fun _ => ok, nofun⟩
    case clock => exact clockRecord_bad common.2 fun ok => h ⟨common, nofun, nofun, fun _ => ok⟩
    all_goals exact measuredRecord_bad _ fun ok => h ⟨common, fun _ => ok, nofun, nofun⟩
  · exact newAlarm_outOfRange common

/-- SET_ALARM arms an enabled TIDE_LEAD alarm and no other (R107). -/
theorem rearm_asked (k : AlarmKind) (now : Nat) (suspect : Bool) (live : List TideEvent) :
    (askedAlarm o k).rearm now suspect live =
      if k = .tideLead ∧ o.num 5 = 1 then (askedAlarm o k).arm now suspect live else askedAlarm o k := by
  have armed : ((askedAlarm o k).enabled && (askedAlarm o k).kind == .tideLead) = true ↔ k = .tideLead ∧ o.num 5 = 1 := by
    rw [Bool.and_eq_true, and_comm, beq_iff_eq]
    exact and_congr_right fun _ => beq_iff_eq
  unfold Alarm.rearm
  simp only [armed]

end record

/-! ## The rule on the alarm that it names (R105 to R107) -/

/-- The action-change event is sent exactly for a change of floor or hold state (R105). -/
theorem sendActionChangeFrom_eq (old : AlarmUnit) (s : State) :
    s.sendActionChangeFrom old =
      { s with wires := { s.wires with
          actionChanges := s.wires.actionChanges ++
            if s.alarm.floor = old.floor ∧ s.alarm.holdState = old.holdState then []
            else [(s.alarm.floor, s.alarm.holdState)] } } := by
  unfold State.sendActionChangeFrom State.sendActionChange
  split
  · rw [List.append_nil]
  · rfl

section rule
variable {s : State} {e : Entry} {rest : List Entry} {i : Fin 16}

theorem setAlarmRule_bad (h3 : argNum s e 3 = i.1) (bad : newAlarm (s.copyEntry e) = none) :
    setAlarmRule (s.copyEntry e) (takenState s e rest) = refuse .badArgument (takenState s e rest) := by
  unfold setAlarmRule
  rw [forSixteen_atHead s e rest i _ h3, bad]

theorem setAlarmRule_raised {a : Alarm} (h3 : argNum s e 3 = i.1) (ok : newAlarm (s.copyEntry e) = some a)
    (raised : (sel s.alarm.records i).state = .raised) :
    setAlarmRule (s.copyEntry e) (takenState s e rest) = refuse .wrongState (takenState s e rest) := by
  unfold setAlarmRule
  rw [forSixteen_atHead s e rest i _ h3, ok]
  exact if_pos raised

/-- The alarm unit with a record replaced and armed from the unit's copies. -/
def alarmReplaced (s : State) (i : Fin 16) (a : Alarm) : AlarmUnit :=
  { s.alarm with records := upd s.alarm.records i (a.rearm s.alarm.now s.alarm.suspect s.tide.liveEdition) }

theorem setAlarmRule_stored {a : Alarm} (h3 : argNum s e 3 = i.1) (ok : newAlarm (s.copyEntry e) = some a)
    (other : (sel s.alarm.records i).state ≠ .raised) :
    setAlarmRule (s.copyEntry e) (takenState s e rest) =
      reply (word (sel s.alarm.records i).state.code :: instantWords (sel s.alarm.records i).raised)
        { takenState s e rest with
          alarm := alarmReplaced s i a
          wires := { s.wires with
            actionChanges := s.wires.actionChanges ++
              if (alarmReplaced s i a).floor = s.alarm.floor ∧ (alarmReplaced s i a).holdState = s.alarm.holdState then []
              else [((alarmReplaced s i a).floor, (alarmReplaced s i a).holdState)] } } := by
  unfold setAlarmRule
  rw [forSixteen_atHead s e rest i _ h3, ok]
  exact (if_neg other).trans (congrArg _ (sendActionChangeFrom_eq s.alarm _))

end rule

end Sys2Proof

open Sys2Proof Sys2Proof.Machine

/-- Settles O40: the checks as the rule makes them, then the record of the words stored and armed. -/
theorem setAlarmReplacesRecord : Obligations.SetAlarmReplacesRecord := by
  intro s e rest i k h h3 old actions common measuredOk leadOk clockOk ok measured weekly monthly record new unit
  have num4 : (s.copyEntry e).num 4 = argNum s e 4 := copyEntry_argNum s e 4 (by omega) (by omega)
  have num5 : (s.copyEntry e).num 5 = argNum s e 5 := copyEntry_argNum s e 5 (by omega) (by omega)
  refine ⟨fun above => ?_, fun kind => ?_⟩
  · exact refused_of_rule (fun _ => rfl) rfl h (setAlarmRule_bad h3 (newAlarm_unknownKind (num4.symm ▸ above)))
  have named : (s.copyEntry e).num 4 = k.code := num4.trans kind
  have checks : AlarmArgsOk (s.copyEntry e) k ↔ ok := by
    simp only [AlarmArgsOk, MeasuredArgsOk, LeadArgsOk, ClockArgsOk, copyEntry_argNum, copyEntry_argWord,
      Nat.reduceLeDiff]
    rfl
  have asked : askedAlarm (s.copyEntry e) k = record := by
    simp only [askedAlarm, askedActions, copyEntry_argNum, copyEntry_argWord, copyEntry_argInt, Nat.reduceLeDiff]
    rfl
  refine ⟨fun bad => ?_, fun good raised => ?_, fun good other => ?_⟩
  · exact refused_of_rule (fun _ => rfl) rfl h (setAlarmRule_bad h3 (newAlarm_bad named (mt checks.mp bad)))
  · exact refused_of_rule (fun _ => rfl) rfl h
      (setAlarmRule_raised h3 (newAlarm_asked named (checks.mpr good)) raised)
  · have replaced : alarmReplaced s i (askedAlarm (s.copyEntry e) k) = unit := by
      unfold alarmReplaced
      rw [rearm_asked, num5, asked]
    refine ends_of_rule (fun _ => rfl) rfl h ?_
    rw [setAlarmRule_stored h3 (newAlarm_asked named (checks.mpr good)) other, replaced]
    rfl

end


/-!
# SET_SCREEN, RELEASE_SCREEN and RESET_SCREEN

What replacing a screen's record leaves to be read, and the three orders by their checks.
-/

section
namespace Sys2Proof

open Sys2Proof.Machine

/-! ## A screen's record replaced -/

theorem setScreen_eq (s : State) (n : ScreenNo) (x : Screen) : s.setScreen n x = withScreen s n x s.wash := rfl

@[simp] theorem withScreen_screen (s : State) (n : ScreenNo) (x : Screen) (w : Wash) : (withScreen s n x w).screen n = x :=
  sel_upd_same _ _ _

@[simp] theorem withScreen_wash (s : State) (n : ScreenNo) (x : Screen) (w : Wash) : (withScreen s n x w).wash = w := rfl

theorem holdsSlot_iff (x : ScreenState) : x.holdsSlot = true ↔ x = .starting ∨ x = .washing := by cases x <;> decide

theorem drive_iff (x : ScreenState) : x.drive = true ↔ x = .starting ∨ x = .washing ∨ x = .rundown := by
  cases x <;> decide

/-! ## SET_SCREEN, RELEASE_SCREEN and RESET_SCREEN (R132, R133, R134) -/

theorem screenArgsOk_iff (o : WorkingCopy) :
    screenArgsOk o = true ↔ 1 ≤ o.num 4 ∧ o.num 4 ≤ 8 ∧ 10 ≤ o.num 5 ∧ o.num 5 ≤ 5000 ∧ o.num 5 < o.num 6 ∧
      o.num 6 ≤ 10000 ∧ 30 ≤ o.num 7 ∧ o.num 7 ≤ 900 ∧ 10 ≤ o.num 8 ∧ o.num 8 ≤ 300 := by
  unfold screenArgsOk
  simp only [Bool.and_eq_true, decide_eq_true_eq, and_assoc]

section orders
variable {s : State} {e : Entry} {rest : List Entry} {n : ScreenNo}

/-- A check of SET_SCREEN that fails, the mark's code last (R134). -/
theorem setScreenRule_bad (h3 : argNum s e 3 = n.1) (hf : s.screenFitted n = true)
    (bad : ¬(screenArgsOk (s.copyEntry e) = true ∧ (s.copyEntry e).num 9 ≤ 1)) :
    setScreenRule (s.copyEntry e) (takenState s e rest) = refuse .badArgument (takenState s e rest) := by
  unfold setScreenRule
  rw [forScreen_atHead s e rest n _ h3 hf]
  by_cases mark : (s.copyEntry e).num 9 ≤ 1
  · rw [markOfWord_some _ mark]
    exact if_neg fun ok => bad ⟨ok, mark⟩
  · rw [markOfWord_none _ (Nat.lt_of_not_le mark)]

/-- SET_SCREEN stores the settings and leaves the wash of the screen as it stands (R134). -/
theorem setScreenRule_stored (h3 : argNum s e 3 = n.1) (hf : s.screenFitted n = true)
    (ok : screenArgsOk (s.copyEntry e) = true) (mark : (s.copyEntry e).num 9 ≤ 1) :
    setScreenRule (s.copyEntry e) (takenState s e rest) =
      reply [] (withScreen (takenState s e rest) n
        { s.screen n with
          configTurns := argNum s e 4, startThreshold := argNum s e 5, chokeThreshold := argNum s e 6
          turnTimeout := argNum s e 7, rundownTime := argNum s e 8, intervalRestart := argNum s e 9 == 1 } s.wash) := by
  unfold setScreenRule
  rw [forScreen_atHead s e rest n _ h3 hf, markOfWord_some _ mark]
  refine (if_pos ok).trans ?_
  simp only [copyEntry_argNum, copyEntry_argWord, Nat.reduceLeDiff]
  rfl

end orders

end Sys2Proof

open Sys2Proof Sys2Proof.Machine

/-- Settles O44: the checks of each order, then the one record that it stores. -/
theorem screenRecordOrders : Obligations.ScreenRecordOrders := by
  intro s e rest n h3 hf x after
  refine ⟨fun h => ?_, fun h => ?_, fun h => ⟨fun busy => ?_, fun stalled clear => ?_⟩⟩
  · intro ok
    have checks : (screenArgsOk (s.copyEntry e) = true ∧ (s.copyEntry e).num 9 ≤ 1) ↔ ok := by
      simp only [screenArgsOk_iff, copyEntry_argNum, Nat.reduceLeDiff, and_assoc]
      rfl
    refine ⟨fun bad => ?_, fun good => ?_⟩
    · exact refused_of_rule (fun _ => rfl) rfl h (setScreenRule_bad h3 hf (mt checks.mp bad))
    · obtain ⟨args, mark⟩ := checks.mpr good
      exact ends_of_rule (fun _ => rfl) rfl h (setScreenRule_stored h3 hf args mark)
  · exact ends_of_rule (fun _ => rfl) rfl h (forScreen_atHead s e rest n _ h3 hf)
  · exact refused_of_rule (fun _ => rfl) rfl h ((forScreen_atHead s e rest n _ h3 hf).trans (if_pos busy))
  · refine ends_of_rule (fun _ => rfl) rfl h ((forScreen_atHead s e rest n _ h3 hf).trans (if_neg ?_))
    rintro (moving | overload)
    · exact moving stalled
    · exact Bool.false_ne_true (clear.symm.trans overload)

end


/-!
# Wash requests and WASH

What a request does by the service and state of the screen it finds; WASH as its checks and then such a request.
-/

section
namespace Sys2Proof

open Sys2Proof.Machine

/-! ## A wash request by service and state (R116, R117) -/

section request
variable (n : ScreenNo) (c : Cause) (s : State)

theorem request_refused (h : (s.screen n).service = .held ∨ (s.screen n).state = .stalled) : s.request n c = s := by
  rw [request_eq]
  exact if_pos h

/-- A PARKED screen joins the tail of its class for a wash of its own turns. -/
theorem request_parked (hs : (s.screen n).service = .inService) (hx : (s.screen n).state = .parked) :
    s.request n c = withScreen s n
      { s.screen n with
        state := .queued, causes := CauseSet.empty.add c, turnsDone := 0, turnsWanted := (s.screen n).configTurns }
      { s.wash with queue := joined n (s.screen n).choked s.wash.queue } := by
  rw [request_eq]
  simp [hs, hx]

/-- A screen that waits or washes adds the cause. -/
theorem request_washing (hs : (s.screen n).service = .inService)
    (hx : (s.screen n).state = .queued ∨ (s.screen n).state = .starting ∨ (s.screen n).state = .washing) :
    s.request n c = withScreen s n { s.screen n with causes := (s.screen n).causes.add c } s.wash := by
  rw [request_eq]
  rcases hx with hx | hx | hx <;> simp [hs, hx]

/-- A screen in RUNDOWN stores the cause for a further wash. -/
theorem request_rundown (hs : (s.screen n).service = .inService) (hx : (s.screen n).state = .rundown) :
    s.request n c = withScreen s n { s.screen n with stored := (s.screen n).stored.add c, again := true } s.wash := by
  rw [request_eq]
  simp [hs, hx]

end request

/-- The oldest request for a fitted screen reaches it; for one that is not fitted it is lost (R113). -/
theorem exec_washRequest (s : State) (n : ScreenNo) (c : Cause) (pre post : List (ScreenNo × Cause))
    (run : s.phase = .running) (hw : s.wires.washRequests = pre ++ (n, c) :: post) (hp : ∀ m ∈ pre, m.1 ≠ n) :
    exec (.washRequest n) s = .next
      (if s.screenFitted n then (withWires s { s.wires with washRequests := pre ++ post }).request n c
        else withWires s { s.wires with washRequests := pre ++ post }) := by
  have first : takeFirst (fun m => m.1 == n) s.wires.washRequests = some ((n, c), pre ++ post) := by
    rw [hw]
    exact takeFirst_append _ pre (n, c) post (by simp) fun m hm => by simpa using hp m hm
  refine (congrArg Host.Outcome.next ?_ : exec (.washRequest n) s = _)
  unfold State.washRequest
  rw [s.whenRunning_running _ run, first]
  rfl

/-! ## WASH (R129) -/

theorem screenArg_atHead (s : State) (e : Entry) (rest : List Entry) (n : ScreenNo) (h : argNum s e 3 = n.1)
    (hf : s.screenFitted n = true) : screenArg ((s.copyEntry e).arg 3) (takenState s e rest) = .ok n := by
  have h3 : ((s.copyEntry e).arg 3).toNat = n.1 := by
    rw [copyEntry_argWord s e 3 (by omega) (by omega)]
    exact h
  have hlt : ((s.copyEntry e).arg 3).toNat < 6 := h3 ▸ n.2
  have hn : (⟨((s.copyEntry e).arg 3).toNat, hlt⟩ : ScreenNo) = n := Fin.ext h3
  unfold screenArg
  rw [dif_pos hlt, hn]
  exact if_pos hf

/-- The record of a screen that takes a wash order (R129). -/
def orderedScreen (o : WorkingCopy) (x : Screen) : Screen :=
  { x with washOrder := some { entry := o.entry, turns := o.num 4, tag := o.tag } }

theorem acceptWash_eq (o : WorkingCopy) (n : ScreenNo) (s : State) :
    s.acceptWash o n = ((withScreen s n (orderedScreen o (s.screen n)) s.wash).request n .order).raiseTurns n (o.num 4) := rfl

/-- A wash that waits or runs takes the turns of an order that wants more; another stands (R129). -/
theorem raiseTurns_withScreen (s : State) (n : ScreenNo) (x : Screen) (w : Wash) (turns : Nat) :
    (withScreen s n x w).raiseTurns n turns =
      if x.state = .queued ∨ x.state.holdsSlot = true then
        withScreen s n { x with turnsWanted := max x.turnsWanted turns } w
      else withScreen s n x w := by
  unfold State.raiseTurns
  rw [withScreen_screen]
  dsimp only
  rw [setScreen_eq, withScreen_withScreen, withScreen_wash]

section accept
variable (o : WorkingCopy) (n : ScreenNo) (s : State)

theorem acceptWash_parked (hs : (s.screen n).service = .inService) (hx : (s.screen n).state = .parked) :
    s.acceptWash o n = withScreen s n
      { orderedScreen o (s.screen n) with
        state := .queued, causes := CauseSet.empty.add .order, turnsDone := 0
        turnsWanted := max (s.screen n).configTurns (o.num 4) }
      { s.wash with queue := joined n (s.screen n).choked s.wash.queue } := by
  rw [acceptWash_eq, request_parked n .order _ (by simpa [orderedScreen] using hs) (by simpa [orderedScreen] using hx),
    withScreen_withScreen, raiseTurns_withScreen, if_pos (Or.inl rfl)]
  simp only [withScreen_screen, withScreen_wash]
  rfl

theorem acceptWash_washing (hs : (s.screen n).service = .inService)
    (hx : (s.screen n).state = .queued ∨ (s.screen n).state = .starting ∨ (s.screen n).state = .washing) :
    s.acceptWash o n = withScreen s n
      { orderedScreen o (s.screen n) with
        causes := (s.screen n).causes.add .order, turnsWanted := max (s.screen n).turnsWanted (o.num 4) } s.wash := by
  rw [acceptWash_eq, request_washing n .order _ (by simpa [orderedScreen] using hs) (by simpa [orderedScreen] using hx),
    withScreen_withScreen, raiseTurns_withScreen]
  simp only [withScreen_screen, withScreen_wash]
  exact if_pos (hx.imp_right (holdsSlot_iff _).mpr)

theorem acceptWash_rundown (hs : (s.screen n).service = .inService) (hx : (s.screen n).state = .rundown) :
    s.acceptWash o n = withScreen s n
      { orderedScreen o (s.screen n) with stored := (s.screen n).stored.add .order, again := true } s.wash := by
  rw [acceptWash_eq, request_rundown n .order _ (by simpa [orderedScreen] using hs) (by simpa [orderedScreen] using hx),
    withScreen_withScreen, raiseTurns_withScreen]
  simp only [withScreen_screen, withScreen_wash]
  exact if_neg (by simp [orderedScreen, hx, ScreenState.holdsSlot])

end accept

section washRule
variable {s : State} {e : Entry} {rest : List Entry} {n : ScreenNo}

theorem exec_wash (h : AtHead s e rest 0x0D) : exec .wash s = .next (washRule (s.copyEntry e) (takenState s e rest)) :=
  congrArg Host.Outcome.next (take_atHead s e rest 0x0D (some .wash) washRule h rfl)

/-- A check of WASH that fails (R129). -/
theorem wash_refused {r : OrderResult} (h : AtHead s e rest 0x0D) (h3 : argNum s e 3 = n.1) (hf : s.screenFitted n = true)
    (hr : washRefusal (argNum s e 4) (s.screen n) = some r) : Refused .wash s e rest r := by
  refine ((exec_wash h).trans (congrArg Host.Outcome.next ?_) : exec .wash s = _)
  unfold washRule
  rw [screenArg_atHead s e rest n h3 hf]
  dsimp only
  rw [copyEntry_argNum s e 4 (by omega) (by omega), takenState_screen, hr]
  rfl

/-- WASH accepted: its entry stays TAKEN, held by the screen (R129). -/
theorem wash_accepted (h : AtHead s e rest 0x0D) (h3 : argNum s e 3 = n.1) (hf : s.screenFitted n = true)
    (hr : washRefusal (argNum s e 4) (s.screen n) = none) :
    exec .wash s = .next ((takenState s e rest).acceptWash (s.copyEntry e) n) := by
  refine (exec_wash h).trans (congrArg Host.Outcome.next ?_)
  unfold washRule
  rw [screenArg_atHead s e rest n h3 hf]
  dsimp only
  rw [copyEntry_argNum s e 4 (by omega) (by omega), takenState_screen, hr]

end washRule

end Sys2Proof

open Sys2Proof Sys2Proof.Machine

/-- Settles O45: the request by the service and state it finds, and WASH as its checks and then that request. -/
theorem washRequestsByState : Obligations.WashRequestsByState := by
  refine ⟨fun s n c pre post run hw hp => ?_, fun s e rest n h h3 hf => ?_⟩
  · intro x t only becomes
    have delivered := exec_washRequest s n c pre post run hw hp
    refine ⟨fun refused => ?_, fun hf hs => ?_⟩
    · refine delivered.trans (congrArg Host.Outcome.next ?_)
      split
      · next hf => exact request_refused n c t (refused.resolve_left (by simp [hf]))
      · rfl
    · rw [if_pos hf] at delivered
      exact ⟨fun hx => delivered.trans (congrArg Host.Outcome.next (request_parked n c t hs hx)),
        fun hx => delivered.trans (congrArg Host.Outcome.next (request_washing n c t hs hx)),
        fun hx => delivered.trans (congrArg Host.Outcome.next (request_rundown n c t hs hx))⟩
  · intro x turns order becomes
    refine ⟨fun range => ?_, fun low high => ⟨fun off => ?_, fun hs hx held => ?_, fun hs free => ?_⟩⟩
    · exact wash_refused h h3 hf (if_pos range)
    · exact wash_refused h h3 hf ((if_neg (by omega)).trans (if_pos off))
    · refine wash_refused h h3 hf ((if_neg (by omega)).trans ((if_neg ?_).trans (if_pos (Option.isSome_iff_ne_none.mpr held))))
      exact not_or.mpr ⟨by rw [hs]; decide, hx⟩
    · have accepted : x.state ≠ .stalled → ∀ y w,
          (takenState s e rest).acceptWash (s.copyEntry e) n = withScreen (takenState s e rest) n y w → becomes y w := by
        refine fun hx y w ha => (wash_accepted h h3 hf ?_).trans (congrArg Host.Outcome.next ha)
        refine (if_neg (by omega)).trans ((if_neg (not_or.mpr ⟨by rw [hs]; decide, hx⟩)).trans (if_neg ?_))
        exact fun held => Option.isSome_iff_ne_none.mp held free
      have turns4 : (s.copyEntry e).num 4 = turns := copyEntry_argNum s e 4 (by omega) (by omega)
      have order4 : ∀ y : Screen, orderedScreen (s.copyEntry e) y = { y with washOrder := order } := fun y => by
        rw [orderedScreen, turns4]
        rfl
      refine ⟨fun hx => accepted (by simp [hx]) _ _ ?_, fun hx => accepted ?_ _ _ ?_,
        fun hx => accepted (by simp [hx]) _ _ ?_⟩
      · rw [acceptWash_parked _ n (takenState s e rest) hs hx, order4, turns4]
        rfl
      · rcases hx with hx | hx | hx <;> simp [hx]
      · rw [acceptWash_washing _ n (takenState s e rest) hs hx, order4, turns4]
        rfl
      · rw [acceptWash_rundown _ n (takenState s e rest) hs hx, order4]
        rfl

end


/-!
# TURN edges, rundowns and stalls

A change of a field line by phase and level; what the edge, the end of a rundown and the stall make of the screen, by its state.
-/

section
namespace Sys2Proof

open Sys2Proof.Machine

/-! ## A field line of a screen by phase and level (R113, R115, log 15) -/

section line
variable {s : State} {fitted old level : Bool} (store event : State → State)

/-- A line that is not read. -/
theorem line_unread (h : fitted = false ∨ s.phase = .unpowered ∨ s.phase = .coldStart) :
    s.line fitted old level store event = s := by
  unfold State.line
  cases fitted
  · rfl
  · rcases h with h | h | h
    · cases h
    all_goals rw [h, if_pos rfl]

/-- In the hold the level alone is kept. -/
theorem line_held (hf : fitted = true) (h : s.phase = .held) : s.line fitted old level store event = store s := by
  unfold State.line
  rw [if_pos hf, h]

/-- A fall, or a level that stands. -/
theorem line_level (hf : fitted = true) (h : s.phase = .running) (still : level = false ∨ old = true) :
    s.line fitted old level store event = store s := by
  unfold State.line
  rw [if_pos hf, h]
  exact if_neg (by rcases still with rfl | rfl <;> simp)

/-- A change from inactive to active is an event. -/
theorem line_edge (hf : fitted = true) (h : s.phase = .running) (rise : level = true) (low : old = false) :
    s.line fitted old level store event = event (store s) := by
  unfold State.line
  rw [if_pos hf, h]
  exact if_pos (by rw [rise, low]; rfl)

end line

/-! ## A TURN edge by the screen's state (R119, R120, R121) -/

section turn
variable (n : ScreenNo) (s : State)

theorem turn_idle (h : (s.screen n).state = .parked ∨ (s.screen n).state = .queued ∨ (s.screen n).state = .rundown ∨
    (s.screen n).state = .stalled) : s.turn n = s := by
  unfold State.turn
  rcases h with h | h | h | h <;> simp only [h]

/-- The first edge starts the counting. -/
theorem turn_starting (h : (s.screen n).state = .starting) :
    s.turn n =
      withScreen s n { s.screen n with state := .washing, turnWatch := some (s.screen n).turnTimeout } s.wash := by
  unfold State.turn
  simp only [h]
  rfl

/-- A turn short of the wanted is counted. -/
theorem turn_counts (h : (s.screen n).state = .washing) (short : (s.screen n).turnsDone + 1 ≠ (s.screen n).turnsWanted) :
    s.turn n = withScreen s n (s.screen n).countTurn s.wash := by
  unfold State.turn
  simp only [h]
  exact if_neg short

/-- The last turn wanted extends a wash that the differential keeps on. -/
theorem turn_extends (h : (s.screen n).state = .washing) (last : (s.screen n).turnsDone + 1 = (s.screen n).turnsWanted)
    (on : (s.screen n).runsOn = true) :
    s.turn n =
      withScreen s n { (s.screen n).countTurn with turnsWanted := (s.screen n).turnsWanted + 1 } s.wash := by
  unfold State.turn
  simp only [h]
  exact (if_pos last).trans (if_pos on)

/-- The record of a screen whose wash ends counted (R121). -/
def countedScreen (now : Nat) (x : Screen) : Screen :=
  { rundownScreen x with washCount := min (x.washCount + 1) 65535, lastWashEnd := some now, washOrder := none }

/-- The last turn wanted ends any other wash counted. -/
theorem turn_ends (h : (s.screen n).state = .washing) (last : (s.screen n).turnsDone + 1 = (s.screen n).turnsWanted)
    (off : (s.screen n).runsOn = false) :
    s.turn n =
      let counted := (s.screen n).countTurn
      let t := withScreen s n (countedScreen s.time.clock.minuteCount counted) { s.wash with slots := s.wash.slots - 1 }
      washOrderEnded counted .ok (if counted.intervalRestart then t.sendIntervalRestart n else t) := by
  have ended : s.turn n = (s.setScreen n (s.screen n).countTurn).countedEnd n := by
    unfold State.turn
    simp only [h]
    exact (if_pos last).trans (if_neg (by rw [show (s.screen n).countTurn.runsOn = false from off]; simp))
  rw [ended, countedEnd_eq, State.screen_setScreen_same]
  dsimp only
  rw [setScreen_eq, withScreen_withScreen]
  rfl

/-- A counted end sends an interval restart if the screen has its mark. -/
theorem sendIntervalRestart_if (c : Bool) (t : State) :
    (if c then t.sendIntervalRestart n else t) = withWires t { t.wires with
      intervalRestarts := if c then t.wires.intervalRestarts ++ [n] else t.wires.intervalRestarts } := by
  cases c <;> rfl

end turn

theorem runsOn_iff (x : Screen) :
    x.runsOn = true ↔ x.causes.differential = true ∧ x.dpReached = true ∧ x.turnsWanted < 8 := by
  unfold Screen.runsOn
  simp only [Bool.and_eq_true, decide_eq_true_eq, and_assoc]

/-! ## The end of a rundown (R122, log 7) -/

section rundown
variable (n : ScreenNo) (s : State)

/-- The record of a screen that leaves RUNDOWN. -/
def restedScreen (x : Screen) : Screen :=
  { x with fast := false, rundownClock := none, again := false, stored := CauseSet.empty }

theorem endRundown_parks (h : (s.screen n).again = false) :
    s.endRundown n =
      withScreen s n { restedScreen (s.screen n) with state := .parked, causes := CauseSet.empty } s.wash := by
  unfold State.endRundown
  simp only [h]
  rfl

theorem endRundown_queues (h : (s.screen n).again = true) :
    s.endRundown n =
      withScreen s n
        { restedScreen (s.screen n) with
          state := .queued, causes := (s.screen n).stored, turnsDone := 0
          turnsWanted := max (s.screen n).configTurns (s.screen n).orderTurns }
        { s.wash with queue := joined n (s.screen n).choked s.wash.queue } := by
  unfold State.endRundown
  simp only [h, if_true]
  rw [joinScreen_eq]
  rfl

theorem orderTurns_eq (x : Screen) : x.orderTurns = (x.washOrder.map fun o => o.turns).getD 0 := by
  unfold Screen.orderTurns
  cases x.washOrder <;> rfl

theorem rundownExpiry_due (run : s.phase = .running) (h : (s.screen n).state = .rundown)
    (clock : (s.screen n).rundownClock = some 0) : s.rundownExpiry n = s.endRundown n := by
  unfold State.rundownExpiry
  rw [s.whenRunning_running _ run, h, clock]
  rfl

theorem rundownExpiry_undue (h : ¬((s.screen n).state = .rundown ∧ (s.screen n).rundownClock = some 0)) :
    s.rundownExpiry n = s := by
  unfold State.rundownExpiry State.whenRunning
  split
  · exact if_neg (by simpa using h)
  all_goals rfl

end rundown

/-! ## Stalls (R123, R124) -/

section stall
variable (n : ScreenNo) (s : State)

/-- What a stall makes of a state, the screen's record being `x` but for its levels. -/
def stalledAt (x : Screen) : State :=
  withFlag (washOrderEnded x .failed (withScreen s n (stalledScreen x)
    { s.wash with
      slots := if x.state = .starting ∨ x.state = .washing then s.wash.slots - 1 else s.wash.slots })) .screen

theorem stallScreen_withScreen (x : Screen) : (withScreen s n x s.wash).stallScreen n = stalledAt n s x := by
  rw [stallScreen_eq, withScreen_screen, withScreen_withScreen, withScreen_wash]
  simp only [holdsSlot_iff]
  rfl

theorem stallScreen_stalledAt : s.stallScreen n = stalledAt n s (s.screen n) := by
  rw [stallScreen_eq]
  simp only [holdsSlot_iff]
  rfl

/-- A turn watch with seconds left, or of a screen that does not wash. -/
theorem turnWatchExpiry_undue
    (h : ¬(((s.screen n).state = .starting ∨ (s.screen n).state = .washing) ∧ (s.screen n).turnWatch = some 0)) :
    s.turnWatchExpiry n = s := by
  unfold State.turnWatchExpiry State.whenRunning
  split
  · exact if_neg (by simpa [holdsSlot_iff] using h)
  all_goals rfl

/-- An overload at a driven screen stalls it. -/
theorem overload_withScreen (x : Screen)
    (h : (x.state = .starting ∨ x.state = .washing) ∨ x.state = .rundown) :
    (withScreen s n x s.wash).overload n = stalledAt n s x := by
  unfold State.overload
  rw [withScreen_screen, if_pos ((drive_iff _).mpr (or_assoc.mp h)), stallScreen_withScreen]

theorem overload_idle (x : Screen) (h : ¬((x.state = .starting ∨ x.state = .washing) ∨ x.state = .rundown)) :
    (withScreen s n x s.wash).overload n = withScreen s n x s.wash := by
  unfold State.overload
  rw [withScreen_screen]
  exact if_neg fun driven => h (or_assoc.mpr ((drive_iff _).mp driven))

end stall

end Sys2Proof

open Sys2Proof Sys2Proof.Machine

/-- Settles O46: each line by phase and level, then the edge, the expiry or the stall by the screen's state. -/
theorem turnsRundownAndStalls : Obligations.TurnsRundownAndStalls := by
  refine ⟨fun s n level => ?_, fun s n level => ?_⟩
  · intro x b counted runsOn edge
    have read : ∀ {t}, s.turnEdge n level = t → exec (.turnEdge n level) s = .next t := congrArg Host.Outcome.next
    have record : (withScreen s n b s.wash).screen n = b := withScreen_screen ..
    have rewritten : ∀ (y : Screen) (w : Wash), withScreen (withScreen s n b s.wash) n y w = withScreen s n y w :=
      fun y w => withScreen_withScreen s n b y _ w
    refine ⟨fun off => read (line_unread _ _ off), fun hf => ⟨fun hold => read (line_held _ _ hf hold),
      fun run still => read (line_level _ _ hf run still), fun run rise low => ?_⟩, fun run => ?_⟩
    · have turned : ∀ {t}, (withScreen s n b s.wash).turn n = t → exec (.turnEdge n level) s = .next t :=
        fun ht => read ((line_edge _ _ hf run rise low).trans ht)
      refine ⟨fun hx => turned (turn_idle n _ (by rwa [record])), fun hx => turned ?_, fun hx short => turned ?_,
        fun hx last on => turned ?_, fun hx last off => ?_⟩
      · rw [turn_starting n _ (by rwa [record]), record, rewritten]
        rfl
      · rw [turn_counts n _ (by rwa [record]) (by rwa [record]), record, rewritten]
        rfl
      · rw [turn_extends n _ (by rwa [record]) (by rwa [record]) (by rw [record]; exact (runsOn_iff _).mpr on), record,
          rewritten]
        rfl
      · intro t restarts
        refine turned ((turn_ends n _ (by rwa [record]) (by rwa [record]) ?_).trans ?_)
        · rw [record]
          exact Bool.eq_false_iff.mpr fun on => off ((runsOn_iff _).mp on)
        · rw [record]
          dsimp only
          rw [rewritten]
          exact congrArg (washOrderEnded counted .ok) (sendIntervalRestart_if n x.intervalRestart t)
    · intro y
      have expired : ∀ {t}, s.rundownExpiry n = t → exec (.rundownExpiry n) s = .next t := congrArg Host.Outcome.next
      refine ⟨fun undue => expired (rundownExpiry_undue n s undue), fun hx clock once => ?_, fun hx clock again => ?_⟩
      · exact expired ((rundownExpiry_due n s run hx clock).trans (endRundown_parks n s once))
      · intro orderTurns
        refine expired ((rundownExpiry_due n s run hx clock).trans ((endRundown_queues n s again).trans ?_))
        rw [orderTurns_eq]
        rfl
  · intro x b holds slots stall
    have read : ∀ {t}, s.overloadEvent n level = t → exec (.overloadEvent n level) s = .next t := congrArg Host.Outcome.next
    have expired : ∀ {t}, s.turnWatchExpiry n = t → exec (.turnWatchExpiry n) s = .next t := congrArg Host.Outcome.next
    refine ⟨fun run => ⟨fun hx watch => expired ?_, fun undue => expired (turnWatchExpiry_undue n s undue)⟩,
      fun off => read (line_unread _ _ off),
      fun hf => ⟨fun hold => read (line_held _ _ hf hold), fun run => ⟨fun rise low hx => read ?_, fun still => read ?_⟩⟩⟩
    · rw [turnWatchExpiry_due s n run ((holdsSlot_iff _).mpr hx) watch, stallScreen_stalledAt]
      rfl
    · exact (line_edge _ _ hf run rise low).trans (overload_withScreen n s b hx)
    · by_cases edge : level = true ∧ x.overload = false
      · exact (line_edge _ _ hf run edge.1 edge.2).trans (overload_idle n s b fun hx => still ⟨edge.1, edge.2, hx⟩)
      · exact line_level _ _ hf run
          ((not_and_or.mp edge).imp Bool.eq_false_of_not_eq_true Bool.eq_true_of_not_eq_false)

end


/-!
# Differential reports, the grant and the suspension

A report screen by screen; the grant to the head of the wash queue; the header's pressure test and the re-entry of the suspended
screens at the heads of their classes.
-/

section
namespace Sys2Proof

open Sys2Proof.Machine

section running
variable {s : State} (run : s.phase = .running)
include run

/-! ## Reports delivered to a running part, and the grant (R126, R138, R140, R143) -/

theorem differentialReport_head {report : List (ScreenNo × Differential)} {rest : List (List (ScreenNo × Differential))}
    (hw : s.wires.diffReports = report :: rest) :
    s.differentialReport =
      chokeSent s.chokeState (report.foldl (fun (t : State) m => differentialHandled t m.1 m.2)
        (withWires s { s.wires with diffReports := rest })) := by
  unfold State.differentialReport
  rw [s.whenRunning_running _ run, hw, ← sendChokeFrom_eq]
  simp only [differentialAt_eq]
  rfl

theorem hReport_head {h : Measure} {rest : List Measure} (hw : s.wires.hReports = h :: rest) :
    s.hReport =
      let t := (withWires s { s.wires with hReports := rest }).setWash (s.wash.hear h)
      if s.wash.pressurised && !(s.wash.hear h).pressurised then t.suspend else t := by
  unfold State.hReport
  rw [s.whenRunning_running _ run, hw]
  rfl

theorem runningPumpReport_head {k : Nat} {rest : List Nat} (hw : s.wires.runningReports = k :: rest) :
    s.runningPumpReport =
      { withWires s { s.wires with runningReports := rest } with wash := { s.wash with running := k } } := by
  unfold State.runningPumpReport
  rw [s.whenRunning_running _ run, hw]
  rfl

theorem grant_refused (h : ¬s.wash.grantable = true) : s.grant = s := by
  unfold State.grant
  rw [s.whenRunning_running _ run]
  exact if_neg h

/-- The head of the queue is served. -/
theorem grant_serves {n : ScreenNo} {c : WashClass} {rest : List (ScreenNo × WashClass)} (h : s.wash.grantable = true)
    (hq : s.wash.queue = (n, c) :: rest) :
    s.grant = (s.setWash { s.wash with queue := rest, slots := s.wash.slots + 1 }).grantTo n := by
  unfold State.grant
  rw [s.whenRunning_running _ run, if_pos h, hq]

end running

/-! ## The head of the queue served (R118, R143) -/

theorem grantable_iff (w : Wash) :
    w.grantable = true ↔ (w.slots < w.capacity ∧ w.pressurised = true ∧ 1 ≤ w.running) ∧ w.queue ≠ [] := by
  simp [Wash.grantable, and_assoc]

/-- The slot goes to a screen that starts. -/
theorem grantTo_starts (s : State) (n : ScreenNo) (w : Wash) (clear : (s.screen n).overload = false) :
    (s.setWash w).grantTo n = withScreen s n (s.screen n).granted w := by
  unfold State.grantTo
  exact if_neg (by rw [show ((s.setWash w).screen n).overload = false from clear]; simp)

/-- A screen whose OVERLOAD is active stalls within the grant and gives the slot back. -/
theorem grantTo_stalls (s : State) (n : ScreenNo) (w : Wash) (active : (s.screen n).overload = true) :
    (s.setWash w).grantTo n =
      withFlag (washOrderEnded (s.screen n) .failed
        (withScreen s n (stalledScreen (s.screen n)) { w with slots := w.slots - 1 })) .screen := by
  have granted : (s.setWash w).grantTo n = (withScreen s n (s.screen n).granted w).stallScreen n := by
    unfold State.grantTo
    exact if_pos active
  rw [granted, stallScreen_eq, withScreen_screen, withScreen_withScreen]
  rfl

/-! ## The pressure test (R138, R139) -/

theorem passes_iff (w : Wash) (h : Measure) :
    w.passes h = true ↔ h.quality = .good ∧ (w.minPressure : Int) ≤ h.value := by
  simp [Wash.passes]

theorem hear_passing {w : Wash} {h : Measure} (pass : w.passes h = true) :
    w.hear h = { w with lastH := h, lossCount := 0, pressurised := true } := if_pos pass

/-- A loss is counted, and ends the pressure at the tolerance. -/
theorem hear_failing {w : Wash} {h : Measure} (fail : ¬w.passes h = true) :
    w.hear h = { w with
      lastH := h, lossCount := min (w.lossCount + 1) 60
      pressurised := w.pressurised && min (w.lossCount + 1) 60 < w.tolerance } := if_neg fail

/-! ## The suspension (R125, R142, R145) -/

/-- A screen that the suspension reaches. -/
def suspends (s : State) (n : ScreenNo) : Bool := (s.screen n).state == .starting || (s.screen n).state == .washing

theorem holdsSlot_eq (x : ScreenState) : x.holdsSlot = (x == .starting || x == .washing) := by cases x <;> rfl

/-- The class by the choked mark (R141). -/
def classOfMark (choked : Bool) : WashClass := if choked then .urgent else .routine

/-- The suspended screens of a class, ascending, re-enter it. -/
theorem classOf_suspending (s : State) (choked : Bool) :
    classOf (classOfMark choked) s.suspending =
      (indices fun n => suspends s n && (s.screen n).choked == choked).map fun n => (n, classOfMark choked) := by
  have marked : ∀ x : Screen, (x.washClass == classOfMark choked) = (x.choked == choked) := by
    intro x
    unfold Screen.washClass classOfMark
    cases x.choked <;> cases choked <;> rfl
  unfold classOf State.suspending indices suspends
  rw [List.filter_map, List.filter_filter]
  simp only [Function.comp_def, marked, holdsSlot_eq, Bool.and_comm]
  refine List.map_congr_left fun n hn => ?_
  have mark : (s.screen n).choked = choked := by
    simp only [List.mem_filter, Bool.and_eq_true, beq_iff_eq] at hn
    exact hn.2.1
  rw [← mark]
  rfl

theorem suspend_eq (s : State) :
    s.suspend = { s with
      screens := tab fun n =>
        if suspends s n then { s.screen n with state := .queued, fast := false, turnWatch := none } else s.screen n
      wash := { s.wash with
        slots := 0
        queue :=
          ((indices fun n => suspends s n && (s.screen n).choked == true).map fun n => (n, .urgent)) ++
            (s.wash.queue.filter fun m => m.2 == .urgent) ++
            (((indices fun n => suspends s n && (s.screen n).choked == false).map fun n => (n, .routine)) ++
              s.wash.queue.filter fun m => m.2 == .routine) } } := by
  have urgent : classOf .urgent s.suspending = _ := classOf_suspending s true
  have routine : classOf .routine s.suspending = _ := classOf_suspending s false
  unfold State.suspend reenter
  rw [urgent, routine]
  simp only [holdsSlot_eq]
  rfl

end Sys2Proof

open Sys2Proof Sys2Proof.Machine

/-- Settles O48: the report screen by screen, then the choke state if it changed. -/
theorem differentialReportMarksAndAsks : Obligations.DifferentialReportMarksAndAsks :=
  ⟨chokeState_isMark, fun _ _ _ run hw => congrArg Host.Outcome.next (differentialReport_head run hw)⟩

/-- Settles O50: the grant by its condition and the head's OVERLOAD, the H report by the test and the count. -/
theorem grantPressureAndSuspension : Obligations.GrantPressureAndSuspension := by
  intro s run w condition
  refine ⟨fun refused => ?_, fun n c rest granted hq => ?_, fun h rest hw => ?_,
    fun k rest hw => congrArg Host.Outcome.next (runningPumpReport_head run hw)⟩
  · exact congrArg Host.Outcome.next (grant_refused run (mt (grantable_iff w).mp refused))
  · intro x
    have serves := grant_serves run ((grantable_iff w).mpr ⟨granted, by simp [hq]⟩) hq
    refine ⟨fun clear => congrArg Host.Outcome.next (serves.trans (grantTo_starts s n _ clear)),
      fun active => congrArg Host.Outcome.next (serves.trans ((grantTo_stalls s n _ active).trans ?_))⟩
    rfl
  · intro t passes count suspended back
    have heard := hReport_head run hw
    refine ⟨fun pass => congrArg Host.Outcome.next (heard.trans ?_), fun fail kept => congrArg Host.Outcome.next (heard.trans ?_),
      fun fail on out => congrArg Host.Outcome.next (heard.trans ?_)⟩
    · dsimp only
      rw [hear_passing ((passes_iff w h).mpr pass)]
      exact if_neg (by simp)
    · have same : (w.pressurised && decide (count < w.tolerance)) = w.pressurised := by
        rcases kept with off | within
        · rw [off]
          rfl
        · rw [decide_eq_true within, Bool.and_true]
      dsimp only
      rw [hear_failing (mt (passes_iff w h).mp fail), same]
      exact if_neg (show ¬(s.wash.pressurised && !s.wash.pressurised) = true by simp)
    · have lost : (w.pressurised && decide (count < w.tolerance)) = false := by
        rw [decide_eq_false (by omega), Bool.and_false]
      dsimp only
      rw [hear_failing (mt (passes_iff w h).mp fail), lost]
      refine (if_pos (by rw [show s.wash.pressurised = true from on]; rfl)).trans ?_
      rw [suspend_eq]
      rfl

end


/-!
# The wash queue as a list

The queue holds the waiting screens, each once, URGENT ahead of ROUTINE; joining, leaving, promotion, the grant and the re-entry
keep it so.
-/

section
namespace Sys2Proof

open Sys2Proof.Machine

/-! ## URGENT ahead of ROUTINE (R141) -/

/-- Two entries stand as their classes ask: none that is URGENT behind one that is ROUTINE. -/
def Ahead (a b : ScreenNo × WashClass) : Prop := a.2 = .routine → b.2 = .routine

theorem mem_classOf (c : WashClass) (q : List (ScreenNo × WashClass)) (m : ScreenNo × WashClass) :
    m ∈ classOf c q ↔ m ∈ q ∧ m.2 = c := by
  simp [classOf]

theorem urgent_append_routine {u r : List (ScreenNo × WashClass)} (hu : ∀ m ∈ u, m.2 = .urgent)
    (hr : ∀ m ∈ r, m.2 = .routine) : (u ++ r).Pairwise Ahead := by
  refine List.pairwise_append.mpr ⟨List.pairwise_of_forall_mem_list fun a ha _ _ routine => ?_,
    List.pairwise_of_forall_mem_list fun _ _ b hb _ => hr b hb, fun _ _ b hb _ => hr b hb⟩
  cases (hu a ha).symm.trans routine

/-- The queue is its URGENT entries and then its ROUTINE ones exactly when every two entries stand so. -/
theorem byClass_iff (q : List (ScreenNo × WashClass)) :
    q = classOf .urgent q ++ classOf .routine q ↔ q.Pairwise Ahead := by
  constructor
  · intro h
    rw [h]
    exact urgent_append_routine (fun m hm => ((mem_classOf _ _ m).mp hm).2) fun m hm => ((mem_classOf _ _ m).mp hm).2
  · intro h
    induction q with
    | nil => rfl
    | cons a q ih =>
      obtain ⟨first, rest⟩ := List.pairwise_cons.mp h
      obtain ⟨n, c⟩ := a
      cases c with
      | urgent => exact congrArg ((n, WashClass.urgent) :: ·) (ih rest)
      | routine =>
        have routine : ∀ m ∈ q, m.2 = .routine := fun m hm => first m hm rfl
        have none : classOf .urgent q = [] := List.filter_eq_nil_iff.mpr fun m hm => by simp [routine m hm]
        have all : classOf .routine q = q := List.filter_eq_self.mpr fun m hm => by simp [routine m hm]
        show (n, WashClass.routine) :: q = classOf .urgent q ++ (n, WashClass.routine) :: classOf .routine q
        rw [none, all]
        rfl

/-- The two classes hold every entry. -/
theorem classOf_perm (q : List (ScreenNo × WashClass)) : (classOf .urgent q ++ classOf .routine q).Perm q := by
  have routine : classOf .routine q = q.filter fun m => !(m.2 == .urgent) := by
    refine List.filter_congr fun m _ => ?_
    cases m.2 <;> rfl
  rw [routine]
  exact List.filter_append_perm _ q

/-! ## The operations on the queue (R117, R127, R141, R142) -/

/-- A join adds one entry. -/
theorem joined_perm (n : ScreenNo) (choked : Bool) (q : List (ScreenNo × WashClass)) :
    (joined n choked q).Perm ((n, classOfMark choked) :: q) := by
  cases choked with
  | false => exact List.perm_append_singleton _ q
  | true =>
    unfold joined
    rw [if_pos rfl, List.append_assoc]
    exact List.perm_middle.trans ((classOf_perm q).cons _)

/-- A re-entry adds the suspended screens' entries. -/
theorem reenter_perm (l q : List (ScreenNo × WashClass)) : (reenter l q).Perm (l ++ q) := by
  refine List.perm_iff_count.mpr fun m => ?_
  have ofSuspended := (classOf_perm l).count_eq m
  have ofQueue := (classOf_perm q).count_eq m
  unfold reenter
  simp only [List.count_append] at *
  omega

theorem without_names (n : ScreenNo) (q : List (ScreenNo × WashClass)) :
    (without n q).map Prod.fst = (q.map Prod.fst).filter fun m => m != n := by
  rw [List.filter_map]
  rfl

/-- The queue holds exactly the waiting screens, each once, URGENT ahead of ROUTINE (R117). -/
structure QueueOk (waits : ScreenNo → Prop) (q : List (ScreenNo × WashClass)) : Prop where
  mem : ∀ n, n ∈ q.map Prod.fst ↔ waits n
  once : (q.map Prod.fst).Nodup
  ahead : q.Pairwise Ahead

section queue
variable {waits : ScreenNo → Prop} {q : List (ScreenNo × WashClass)} {n : ScreenNo}

theorem QueueOk.congr {waits' : ScreenNo → Prop} (h : QueueOk waits q) (hw : ∀ n, waits n ↔ waits' n) :
    QueueOk waits' q := ⟨fun n => (h.mem n).trans (hw n), h.once, h.ahead⟩

theorem queueOk_nil (h : ∀ n, ¬waits n) : QueueOk waits [] :=
  ⟨fun n => by simp [h n], List.nodup_nil, List.Pairwise.nil⟩

theorem QueueOk.joined (h : QueueOk waits q) (hn : ¬waits n) (choked : Bool) :
    QueueOk (fun m => m = n ∨ waits m) (joined n choked q) := by
  have names := (joined_perm n choked q).map Prod.fst
  refine ⟨fun m => ?_, names.nodup_iff.mpr (List.nodup_cons.mpr ⟨by rwa [h.mem], h.once⟩), ?_⟩
  · rw [names.mem_iff, List.map_cons, List.mem_cons, h.mem]
  · cases choked with
    | false =>
      refine List.pairwise_append.mpr ⟨h.ahead, List.pairwise_singleton _ _, fun _ _ m hm _ => ?_⟩
      rw [List.mem_singleton.mp hm]
    | true =>
      refine urgent_append_routine (fun m hm => ?_) fun m hm => ((mem_classOf _ q m).mp hm).2
      rcases List.mem_append.mp hm with hm | hm
      · exact ((mem_classOf _ q m).mp hm).2
      · rw [List.mem_singleton.mp hm]

theorem QueueOk.without (h : QueueOk waits q) (n : ScreenNo) : QueueOk (fun m => m ≠ n ∧ waits m) (without n q) := by
  refine ⟨fun m => ?_, ?_, h.ahead.filter _⟩
  · rw [without_names, List.mem_filter, h.mem, and_comm, bne_iff_ne]
  · rw [without_names]
    exact h.once.filter _

/-- A promotion changes the place of a screen that waits, and no other screen's waiting. -/
theorem QueueOk.promoted (h : QueueOk waits q) (c : Bool) :
    QueueOk waits
      (if c && decide ((n, WashClass.routine) ∈ q) then Sys2Proof.joined n true (Sys2Proof.without n q) else q) := by
  split
  · next promotes =>
    simp only [Bool.and_eq_true, decide_eq_true_eq] at promotes
    have waiting : waits n := (h.mem n).mp (List.mem_map.mpr ⟨_, promotes.2, rfl⟩)
    refine ((h.without n).joined (fun out => out.1 rfl) true).congr fun m => ⟨?_, fun hm => ?_⟩
    · rintro (rfl | ⟨-, hm⟩)
      · exact waiting
      · exact hm
    · by_cases same : m = n
      · exact Or.inl same
      · exact Or.inr ⟨same, hm⟩
  · exact h

/-- The head served leaves the others. -/
theorem QueueOk.tail {c : WashClass} (h : QueueOk waits ((n, c) :: q)) : QueueOk (fun m => m ≠ n ∧ waits m) q := by
  obtain ⟨fresh, once⟩ := List.nodup_cons.mp h.once
  refine ⟨fun m => ?_, once, (List.pairwise_cons.mp h.ahead).2⟩
  have mem := h.mem m
  rw [List.map_cons, List.mem_cons] at mem
  rw [← mem]
  refine ⟨fun hm => ⟨?_, Or.inr hm⟩, fun hm => hm.2.resolve_left hm.1⟩
  rintro rfl
  exact fresh hm

theorem QueueOk.reenter {l : List (ScreenNo × WashClass)} (h : QueueOk waits q) (once : (l.map Prod.fst).Nodup)
    (apart : ∀ n ∈ l.map Prod.fst, ¬waits n) :
    QueueOk (fun m => m ∈ l.map Prod.fst ∨ waits m) (reenter l q) := by
  have names := (reenter_perm l q).map Prod.fst
  rw [List.map_append] at names
  refine ⟨fun m => ?_, names.nodup_iff.mpr ?_, ?_⟩
  · rw [names.mem_iff, List.mem_append, h.mem]
  · refine List.nodup_append.mpr ⟨once, h.once, ?_⟩
    rintro m hm _ hq rfl
    exact apart m hm ((h.mem m).mp hq)
  · refine urgent_append_routine (fun m hm => ?_) fun m hm => ?_
    all_goals
      rcases List.mem_append.mp hm with hm | hm <;> exact ((mem_classOf _ _ m).mp hm).2

end queue

/-! ## The number of slots held (R137) -/

/-- No index satisfies a predicate that fails at each. -/
theorem indices_none {k : Nat} {p : Fin k → Bool} (h : ∀ i, p i = false) : indices p = [] :=
  List.filter_eq_nil_iff.mpr fun i _ => by simp [h i]

/-- A predicate that changes at one index changes the number of indices by what it changes there. -/
theorem indices_length_change {k : Nat} {f g : Fin k → Bool} (i : Fin k) (h : ∀ j, j ≠ i → g j = f j) :
    (indices g).length + (f i).toNat = (indices f).length + (g i).toNat := by
  have front : ∀ p : Fin k → Bool, (indices p).length = ((List.finRange k).erase i).countP p + (p i).toNat := by
    intro p
    rw [indices, ← List.countP_eq_length_filter, (List.perm_cons_erase (List.mem_finRange i)).countP_eq, List.countP_cons]
    cases p i <;> rfl
  have others : ((List.finRange k).erase i).countP g = ((List.finRange k).erase i).countP f :=
    List.countP_congr fun j hj => by rw [h j ((List.Nodup.mem_erase_iff (List.nodup_finRange k)).mp hj).1]
  rw [front, front, others]
  omega

end Sys2Proof
end


/-!
# The screens and the wash header in order

What the wash unit and the screens hold at every step (`WashOk`), and what a change of one screen's record has to do with queue and
slots to keep it: stand, join, leave, or give the slot back.
-/

section
namespace Sys2Proof

open Sys2Proof.Machine

/-! ## The invariant by its parts -/

/-- A HELD screen carries no choked mark (R112); FAST is on only while DRIVE is (R114). -/
structure ScreenOk (x : Screen) : Prop where
  held : x.service = .held → x.choked = false
  fast : x.fast = true → x.state.drive = true

/-- The terms of `WashInv` by what they speak of. -/
structure WashOk (s : State) : Prop where
  queue : QueueOk (fun n => (s.screen n).state = .queued) s.wash.queue
  slots : s.wash.slots = (indices fun n => (s.screen n).state.holdsSlot).length
  capacity : s.wash.slots ≤ s.wash.capacity
  screen : ∀ n, ScreenOk (s.screen n)
  unfitted : ∀ n, s.screenFitted n = false → s.screen n = Screen.cold

theorem washInv_iff (s : State) : WashInv s ↔ WashOk s := by
  constructor
  · rintro ⟨mem, once, byClass, slots, capacity, held, fast, unfitted⟩
    exact ⟨⟨mem, once, (byClass_iff _).mp byClass⟩, slots, capacity,
      fun n => ⟨held n, fun on => (drive_iff _).mpr (fast n on)⟩, unfitted⟩
  · rintro ⟨⟨mem, once, ahead⟩, slots, capacity, screen, unfitted⟩
    exact ⟨mem, once, (byClass_iff _).mpr ahead, slots, capacity, fun n => (screen n).held,
      fun n on => (drive_iff _).mp ((screen n).fast on), unfitted⟩

/-- FAST is off in a state that does not drive. -/
theorem ScreenOk.fast_off {x : Screen} (h : ScreenOk x) (hx : x.state.drive = false) : x.fast = false :=
  Bool.eq_false_iff.mpr fun on => Bool.false_ne_true (hx.symm.trans (h.fast on))

/-- A record with the same service and mark, FAST as it was and a state that drives. -/
theorem ScreenOk.driven {x y : Screen} (h : ScreenOk x) (service : y.service = x.service) (choked : y.choked = x.choked)
    (drive : y.state.drive = true) : ScreenOk y :=
  ⟨fun held => choked.trans (h.held (service.symm.trans held)), fun _ => drive⟩

/-- A record with the same service and mark and FAST off. -/
theorem ScreenOk.slow {x y : Screen} (h : ScreenOk x) (service : y.service = x.service) (choked : y.choked = x.choked)
    (fast : y.fast = false) : ScreenOk y :=
  ⟨fun held => choked.trans (h.held (service.symm.trans held)), fun on => absurd on (by simp [fast])⟩

/-! ## One screen's record replaced -/

section one
variable {s : State} {n : ScreenNo} {x : Screen} {q : List (ScreenNo × WashClass)} {choked : Bool}

/-- A screen that is not PARKED is fitted. -/
theorem WashOk.fitted (h : WashOk s) (hx : (s.screen n).state ≠ .parked) : s.screenFitted n = true := by
  by_contra unfitted
  rw [h.unfitted n (Bool.eq_false_of_not_eq_true unfitted)] at hx
  exact hx rfl

theorem withScreen_other (s : State) (x : Screen) (w : Wash) {m : ScreenNo} (hm : m ≠ n) :
    (withScreen s n x w).screen m = s.screen m := sel_upd_ne _ _ _ _ hm

/-- A fitted screen whose record keeps its own terms, its waiting matched by the queue and its slot by the count. -/
theorem WashOk.withScreen (h : WashOk s) (hf : s.screenFitted n = true) (ok : ScreenOk x) {w : Wash}
    (queue : QueueOk (fun m => if m = n then x.state = .queued else (s.screen m).state = .queued) w.queue)
    (slots : w.slots + (s.screen n).state.holdsSlot.toNat = s.wash.slots + x.state.holdsSlot.toNat)
    (capacity : w.slots ≤ w.capacity) : WashOk (withScreen s n x w) := by
  have screen : ∀ m, (Sys2Proof.withScreen s n x w).screen m = if m = n then x else s.screen m := fun m => sel_upd _ _ _ _
  refine ⟨queue.congr fun m => ?_, ?_, capacity, fun m => ?_, fun m hm => ?_⟩
  · rw [screen]
    split <;> exact Iff.rfl
  · have count := indices_length_change (f := fun m => (s.screen m).state.holdsSlot)
      (g := fun m => ((Sys2Proof.withScreen s n x w).screen m).state.holdsSlot) n fun m hm => by rw [withScreen_other _ _ _ hm]
    rw [withScreen_screen, ← h.slots] at count
    rw [withScreen_wash]
    omega
  · rw [screen]
    split
    · exact ok
    · exact h.screen m
  · have unfitted : s.screenFitted m = false := hm
    rw [screen, if_neg fun same => Bool.false_ne_true ((same ▸ unfitted).symm.trans hf)]
    exact h.unfitted m unfitted

/-- A record whose waiting and slot stand, the queue perhaps in another order. -/
theorem WashOk.stays (h : WashOk s) (hf : s.screenFitted n = true) (ok : ScreenOk x)
    (waits : x.state = .queued ↔ (s.screen n).state = .queued) (slot : x.state.holdsSlot = (s.screen n).state.holdsSlot)
    (queue : QueueOk (fun m => (s.screen m).state = .queued) q) :
    WashOk (Sys2Proof.withScreen s n x { s.wash with queue := q }) := by
  refine h.withScreen hf ok (queue.congr fun m => ?_) (by rw [slot]) h.capacity
  split
  · next same => rw [same, waits]
  · rfl

/-- A record in the state it was in, beside the queue as it stands. -/
theorem WashOk.same (h : WashOk s) (hf : s.screenFitted n = true) (ok : ScreenOk x) (hx : x.state = (s.screen n).state) :
    WashOk (Sys2Proof.withScreen s n x s.wash) := h.stays hf ok (by rw [hx]) (by rw [hx]) h.queue

/-- A screen that joins the queue, perhaps after a promotion in it. -/
theorem WashOk.joins (h : WashOk s) (hf : s.screenFitted n = true) (ok : ScreenOk x) (hx : x.state = .queued)
    (out : (s.screen n).state ≠ .queued) (slot : (s.screen n).state.holdsSlot = false)
    (queue : QueueOk (fun m => (s.screen m).state = .queued) q) :
    WashOk (Sys2Proof.withScreen s n x { s.wash with queue := joined n choked q }) := by
  refine h.withScreen hf ok ((queue.joined out choked).congr fun m => ?_) (by rw [slot, hx]; rfl) h.capacity
  split
  · next same => exact ⟨fun _ => hx, fun _ => Or.inl same⟩
  · next other => exact ⟨fun hm => hm.resolve_left other, Or.inr⟩

/-- A screen that leaves the queue for a state without a slot. -/
theorem WashOk.leaves (h : WashOk s) (ok : ScreenOk x) (hx : x.state = .parked ∨ x.state = .stalled)
    (waiting : (s.screen n).state = .queued)
    (queue : QueueOk (fun m => m ≠ n ∧ (s.screen m).state = .queued) q) :
    WashOk (Sys2Proof.withScreen s n x { s.wash with queue := q }) := by
  refine h.withScreen (h.fitted (by simp [waiting])) ok (queue.congr fun m => ?_) ?_ h.capacity
  · split
    · next same => exact ⟨fun hm => absurd same hm.1, fun hm => by rcases hx with hx | hx <;> cases hx.symm.trans hm⟩
    · next other => exact ⟨fun hm => hm.2, fun hm => ⟨other, hm⟩⟩
  · rw [waiting]
    rcases hx with hx | hx <;> rw [hx] <;> rfl

/-- The head of the queue that starts with the slot granted to it. -/
theorem WashOk.starts (h : WashOk s) (ok : ScreenOk x) (hx : x.state = .starting)
    (waiting : (s.screen n).state = .queued) (room : s.wash.slots < s.wash.capacity)
    (queue : QueueOk (fun m => m ≠ n ∧ (s.screen m).state = .queued) q) :
    WashOk (Sys2Proof.withScreen s n x { s.wash with queue := q, slots := s.wash.slots + 1 }) := by
  refine h.withScreen (h.fitted (by simp [waiting])) ok (queue.congr fun m => ?_) ?_ room
  · split
    · next same => exact ⟨fun hm => absurd same hm.1, fun hm => nomatch hx.symm.trans hm⟩
    · next other => exact ⟨fun hm => hm.2, fun hm => ⟨other, hm⟩⟩
  · rw [waiting, hx]
    rfl

/-- A screen that holds a slot is counted. -/
theorem WashOk.slots_pos (h : WashOk s) (slot : (s.screen n).state.holdsSlot = true) : 0 < s.wash.slots := by
  rw [h.slots]
  exact List.length_pos_of_mem ((mem_indices _ n).mpr slot)

/-- A screen that gives its slot back. -/
theorem WashOk.releases (h : WashOk s) (ok : ScreenOk x) (hx : x.state = .rundown ∨ x.state = .stalled)
    (slot : (s.screen n).state = .starting ∨ (s.screen n).state = .washing) :
    WashOk (Sys2Proof.withScreen s n x { s.wash with slots := s.wash.slots - 1 }) := by
  have counted := h.slots_pos ((holdsSlot_iff _).mpr slot)
  refine h.withScreen (h.fitted ?_) ok (h.queue.congr fun m => ?_) ?_ (Nat.le_trans (Nat.sub_le _ 1) h.capacity)
  · rcases slot with slot | slot <;> simp [slot]
  · split
    · next same =>
      rw [same]
      rcases slot with slot | slot <;> rcases hx with hx | hx <;> simp [slot, hx]
    · rfl
  · have free : x.state.holdsSlot = false := by rcases hx with hx | hx <;> rw [hx] <;> rfl
    rw [(holdsSlot_iff _).mpr slot, free]
    exact Nat.sub_add_cancel counted

end one

/-! ## Events that keep it -/

/-- An event that keeps the screens and the wash header in order. -/
def KeepsWash (s t : State) : Prop := WashOk s → WashOk t

theorem KeepsWash.refl (s : State) : KeepsWash s s := id

theorem KeepsWash.trans {s t u : State} (h : KeepsWash s t) (h' : KeepsWash t u) : KeepsWash s u := h' ∘ h

/-- Another wash header with the queue, the slots and room for them. -/
theorem KeepsWash.of_wash {s t : State} (screens : t.screens = s.screens) (fitted : t.fittedScreens = s.fittedScreens)
    (queue : t.wash.queue = s.wash.queue) (slots : t.wash.slots = s.wash.slots)
    (capacity : s.wash.slots ≤ s.wash.capacity → s.wash.slots ≤ t.wash.capacity) : KeepsWash s t := by
  intro h
  have screen : ∀ n, t.screen n = s.screen n := fun n => congrArg (sel · n) screens
  have fitted : ∀ n, t.screenFitted n = s.screenFitted n := fun n => by rw [State.screenFitted, fitted]; rfl
  refine ⟨?_, ?_, ?_, fun n => ?_, fun n hn => ?_⟩
  · simpa only [screen, queue] using h.queue
  · simpa only [screen, slots] using h.slots
  · rw [slots]
    exact capacity h.capacity
  · rw [screen]
    exact h.screen n
  · rw [screen]
    exact h.unfitted n (by rwa [← fitted])

/-- An event of another unit. -/
theorem KeepsWash.of_eq {s t : State} (screens : t.screens = s.screens) (fitted : t.fittedScreens = s.fittedScreens)
    (wash : t.wash = s.wash) : KeepsWash s t := .of_wash screens fitted (by rw [wash]) (by rw [wash]) (by rw [wash]; exact id)

theorem DutyOnly.keepsWash {s t : State} (h : DutyOnly s t) : KeepsWash s t := by
  unfold DutyOnly at h
  rw [h]
  exact .of_eq rfl rfl rfl

theorem KeepsWash.foldl {α : Type} (f : State → α → State) (h : ∀ s a, KeepsWash s (f s a)) (l : List α) (s : State) :
    KeepsWash s (l.foldl f s) := by
  induction l generalizing s with
  | nil => exact .refl s
  | cons a l ih => exact (h s a).trans (ih (f s a))

/-- A branch keeps it if both sides do. -/
theorem KeepsWash.ite {s t u : State} {c : Prop} [Decidable c] (ht : KeepsWash s t) (hu : KeepsWash s u) :
    KeepsWash s (if c then t else u) := by
  split
  · exact ht
  · exact hu

theorem whenRunning_keepsWash (f : State → State) (s : State) (h : KeepsWash s (f s)) : KeepsWash s (s.whenRunning f) := by
  unfold State.whenRunning
  split
  · exact h
  all_goals exact .refl s

/-- Every record rewritten in the state it was in. -/
theorem tab_keepsWash (s : State) (f : ScreenNo → Screen) (state : ∀ n, (f n).state = (s.screen n).state)
    (ok : ∀ n, ScreenOk (s.screen n) → ScreenOk (f n)) (cold : ∀ n, s.screen n = Screen.cold → f n = Screen.cold) :
    KeepsWash s { s with screens := tab f } := by
  intro h
  have screen : ∀ n, ({ s with screens := tab f } : State).screen n = f n := fun n => sel_tab f n
  refine ⟨?_, ?_, h.capacity, fun n => ?_, fun n hn => ?_⟩
  · simpa only [screen, state] using h.queue
  · simpa only [screen, state] using h.slots
  · rw [screen]
    exact ok n (h.screen n)
  · rw [screen]
    exact cold n (h.unfitted n hn)

/-! ### Completions and takes (R10, R13) -/

theorem complete_keepsWash (s : State) (e : Entry) (tag : Option Word) (r : OrderResult) (answers : List Word) :
    KeepsWash s (s.complete e tag r answers) := (complete_dutyOnly s e tag r answers).keepsWash

theorem finish_keepsWash (o : WorkingCopy) (s : State) (r : Reply) (h : KeepsWash s r.1) : KeepsWash s (finish o r) :=
  h.trans (complete_keepsWash _ _ _ _ _)

theorem take_keepsWash (s : State) (kind : Option OrderKind) (body : WorkingCopy → State → State)
    (h : ∀ o t, KeepsWash t (body o t)) : KeepsWash s (s.take kind body) := by
  rcases s.take_cases kind body with ht | ⟨e, rest, -, -, -, ht⟩
  · rw [ht]
    exact .refl s
  · rw [ht]
    have taken : KeepsWash s (takenState s e rest) := .of_eq rfl rfl rfl
    exact taken.trans (h _ _)

theorem takeImmediate_keepsWash (s : State) (kind : OrderKind) (rule : WorkingCopy → State → Reply)
    (h : ∀ o t, KeepsWash t (rule o t).1) : KeepsWash s (s.takeImmediate kind rule) :=
  take_keepsWash s _ _ fun o t => finish_keepsWash o t _ (h o t)

/-- A rule that refuses or answers, by a condition. -/
theorem ite_keepsWash {c : Prop} [Decidable c] {s : State} {a b : Reply} (ha : KeepsWash s a.1) (hb : KeepsWash s b.1) :
    KeepsWash s (if c then a else b).1 := by
  split
  · exact ha
  · exact hb

theorem forScreen_keepsWash (w : Word) (s : State) (k : ScreenNo → Reply)
    (h : ∀ n, s.screenFitted n = true → KeepsWash s (k n).1) : KeepsWash s (forScreen w s k).1 := by
  rcases forScreen_cases w s k with hk | hk | ⟨n, hf, hk⟩ <;> rw [hk]
  · exact .refl s
  · exact .refl s
  · exact h n hf

theorem forPump_keepsWash (w : Word) (s : State) (k : PumpNo → Reply) (h : ∀ p, KeepsWash s (k p).1) :
    KeepsWash s (forPump w s k).1 := by
  rcases forPump_cases w s k with hk | hk | ⟨p, -, hk⟩ <;> rw [hk]
  · exact .refl s
  · exact .refl s
  · exact h p

theorem forSixteen_keepsWash (w : Word) (s : State) (k : Fin 16 → Reply) (h : ∀ i, KeepsWash s (k i).1) :
    KeepsWash s (forSixteen w s k).1 := by
  rcases forSixteen_cases w s k with hk | ⟨i, hk⟩ <;> rw [hk]
  · exact .refl s
  · exact h i

end Sys2Proof
end


/-!
# The events of the screen and wash units keep them in order

Each event by the state of the screen it finds, its closed form brought to one of the changes of a record.
-/

section
namespace Sys2Proof

open Sys2Proof.Machine

/-! ## Completions within an event -/

theorem withFlag_keepsWash (s : State) (f : Flag) : KeepsWash s (withFlag s f) := .of_eq rfl rfl rfl

theorem washOrderEnded_keepsWash (x : Screen) (r : OrderResult) (s : State) : KeepsWash s (washOrderEnded x r s) := by
  unfold washOrderEnded
  split
  · exact .refl s
  · exact complete_keepsWash _ _ _ _ _

theorem sendChokeFrom_keepsWash (old : Bool) (s : State) : KeepsWash s (s.sendChokeFrom old) :=
  .ite (.refl s) (.of_eq rfl rfl rfl)

/-- A fitted screen's record with its state, service and mark as they were, and its outputs. -/
theorem setScreen_keepsWash (s : State) (n : ScreenNo) (x : Screen) (hf : s.screenFitted n = true)
    (ok : ScreenOk (s.screen n) → ScreenOk x) (hx : x.state = (s.screen n).state) : KeepsWash s (s.setScreen n x) :=
  fun h => h.same hf (ok (h.screen n)) hx

/-! ## Requests and WASH (R116, R129) -/

theorem request_keepsWash (n : ScreenNo) (c : Cause) (s : State) (hf : s.screenFitted n = true) :
    KeepsWash s (s.request n c) := by
  cases hs : (s.screen n).service with
  | held =>
    rw [request_refused n c s (Or.inl hs)]
    exact .refl s
  | inService =>
    intro h
    have ok := h.screen n
    cases hx : (s.screen n).state with
    | parked =>
      rw [request_parked n c s hs hx]
      refine h.joins hf (ok.slow rfl rfl ?_) rfl (by simp [hx]) (by simp [hx, ScreenState.holdsSlot]) h.queue
      exact ok.fast_off (by rw [hx]; rfl)
    | queued =>
      rw [request_washing n c s hs (Or.inl hx)]
      exact h.same hf ⟨ok.held, ok.fast⟩ rfl
    | starting =>
      rw [request_washing n c s hs (Or.inr (Or.inl hx))]
      exact h.same hf ⟨ok.held, ok.fast⟩ rfl
    | washing =>
      rw [request_washing n c s hs (Or.inr (Or.inr hx))]
      exact h.same hf ⟨ok.held, ok.fast⟩ rfl
    | rundown =>
      rw [request_rundown n c s hs hx]
      exact h.same hf ⟨ok.held, ok.fast⟩ rfl
    | stalled =>
      rw [request_refused n c s (Or.inr hx)]
      exact h

theorem acceptWash_keepsWash (o : WorkingCopy) (n : ScreenNo) (s : State) (hf : s.screenFitted n = true) :
    KeepsWash s (s.acceptWash o n) := by
  have given := setScreen_keepsWash s n (orderedScreen o (s.screen n)) hf (fun ok => ⟨ok.held, ok.fast⟩) rfl
  rw [acceptWash_eq]
  refine given.trans (.trans (request_keepsWash n .order (withScreen s n _ s.wash) hf) ?_)
  refine .ite (setScreen_keepsWash _ n _ ?_ (fun ok => ⟨ok.held, ok.fast⟩) rfl) (.refl _)
  rw [State.screenFitted, (request_quiet n .order _).fittedScreens]
  exact hf

theorem screenArg_fitted {w : Word} {s : State} {n : ScreenNo} (h : screenArg w s = .ok n) : s.screenFitted n = true := by
  unfold screenArg at h
  split at h
  · split at h
    · next hf =>
      cases h
      exact hf
    · cases h
  · cases h

theorem washRule_keepsWash (o : WorkingCopy) (s : State) : KeepsWash s (washRule o s) := by
  unfold washRule
  split
  · exact finish_keepsWash o s _ (.refl s)
  · next n hn =>
    split
    · exact finish_keepsWash o s _ (.refl s)
    · exact acceptWash_keepsWash o n s (screenArg_fitted hn)

/-! ## The wash cycle (R118 to R124) -/

/-- A stall of a screen that drives: it gives back the slot it holds (R124). -/
theorem stallScreen_keepsWash (n : ScreenNo) (s : State) (hd : (s.screen n).state.drive = true) :
    KeepsWash s (s.stallScreen n) := by
  rw [stallScreen_stalledAt]
  refine KeepsWash.trans (t := withScreen s n (stalledScreen (s.screen n)) { s.wash with
    slots := if (s.screen n).state = .starting ∨ (s.screen n).state = .washing then s.wash.slots - 1 else s.wash.slots })
    (fun h => ?_) ((washOrderEnded_keepsWash _ _ _).trans (withFlag_keepsWash _ _))
  have ok : ScreenOk (stalledScreen (s.screen n)) := (h.screen n).slow rfl rfl rfl
  split
  · next slot => exact h.releases ok (Or.inr rfl) slot
  · next free =>
    have rundown : (s.screen n).state = .rundown := by
      rcases (drive_iff _).mp hd with hx | hx | hx
      · exact absurd (Or.inl hx) free
      · exact absurd (Or.inr hx) free
      · exact hx
    exact h.stays (h.fitted (by simp [rundown])) ok (by simp [rundown, stalledScreen]) (by rw [rundown]; rfl) h.queue

theorem turn_keepsWash (n : ScreenNo) (s : State) : KeepsWash s (s.turn n) := by
  cases hx : (s.screen n).state
  case parked | queued | rundown | stalled =>
    rw [turn_idle n s (by simp [hx])]
    exact .refl s
  case starting =>
    rw [turn_starting n s hx]
    exact fun h => h.stays (h.fitted (by simp [hx])) ((h.screen n).driven rfl rfl rfl) (by simp [hx]) (by rw [hx]; rfl)
      h.queue
  case washing =>
    by_cases last : (s.screen n).turnsDone + 1 = (s.screen n).turnsWanted
    swap
    · rw [turn_counts n s hx last]
      exact fun h => h.same (h.fitted (by simp [hx])) ⟨(h.screen n).held, (h.screen n).fast⟩ rfl
    cases on : (s.screen n).runsOn with
    | true =>
      rw [turn_extends n s hx last on]
      exact fun h => h.same (h.fitted (by simp [hx])) ⟨(h.screen n).held, (h.screen n).fast⟩ rfl
    | false =>
      rw [turn_ends n s hx last on]
      dsimp only
      refine KeepsWash.trans (t := withScreen s n
        (countedScreen s.time.clock.minuteCount (s.screen n).countTurn) { s.wash with slots := s.wash.slots - 1 })
        (fun h => h.releases ((h.screen n).driven rfl rfl rfl) (Or.inl rfl) (Or.inr hx)) ?_
      refine KeepsWash.trans ?_ (washOrderEnded_keepsWash _ _ _)
      exact .ite (.of_eq rfl rfl rfl) (.refl _)

theorem overload_keepsWash (n : ScreenNo) (s : State) : KeepsWash s (s.overload n) := by
  unfold State.overload
  split
  · next hd => exact stallScreen_keepsWash n s hd
  · exact .refl s

theorem endRundown_keepsWash (n : ScreenNo) (s : State) (hx : (s.screen n).state = .rundown) :
    KeepsWash s (s.endRundown n) := by
  intro h
  have hf := h.fitted (n := n) (by simp [hx])
  cases again : (s.screen n).again with
  | false =>
    rw [endRundown_parks n s again]
    exact h.stays hf ((h.screen n).slow rfl rfl rfl) (by simp [hx]) (by rw [hx]; rfl) h.queue
  | true =>
    rw [endRundown_queues n s again]
    exact h.joins hf ((h.screen n).slow rfl rfl rfl) rfl (by simp [hx]) (by rw [hx]; rfl) h.queue

/-- A screen's field line, in every phase. -/
theorem line_keepsWash (fitted old level : Bool) (store event : State → State) (s : State)
    (hs : fitted = true → KeepsWash s (store s)) (he : ∀ t, KeepsWash t (event t)) :
    KeepsWash s (s.line fitted old level store event) := by
  unfold State.line
  split
  · next hf =>
    split
    · exact .refl s
    · exact .refl s
    · exact hs hf
    · exact .ite ((hs hf).trans (he _)) (hs hf)
  · exact .refl s

/-! ## The ends out of turn (R130, R131, R133) -/

theorem cancelWash_keepsWash (n : ScreenNo) (s : State) : KeepsWash s (s.cancelWash n) := by
  have ended : ∀ (y : Screen) (w : Wash), (WashOk s → WashOk (withScreen s n y w)) →
      KeepsWash s (washOrderEnded (s.screen n) .cancelled (withScreen s n y w)) := fun y w hy =>
    KeepsWash.trans hy (washOrderEnded_keepsWash _ _ _)
  cases hx : (s.screen n).state
  case parked | stalled =>
    rw [cancelWash_eq]
    dsimp only
    rw [hx]
    exact .refl s
  case queued =>
    rw [cancelWash_queued n s hx]
    refine ended _ _ fun h => h.leaves ((h.screen n).slow rfl rfl ?_) (Or.inl rfl) hx (h.queue.without n)
    exact (h.screen n).fast_off (by rw [hx]; rfl)
  case starting | washing =>
    rw [cancelWash_slot n s (by simp [hx])]
    exact ended _ _ fun h => h.releases ((h.screen n).driven rfl rfl rfl) (Or.inl rfl) (by simp [hx])
  case rundown =>
    rw [cancelWash_rundown n s hx]
    exact ended _ _ fun h => h.same (h.fitted (by simp [hx])) ⟨(h.screen n).held, (h.screen n).fast⟩ rfl

theorem outOfService_keepsWash (n : ScreenNo) (s : State) (hf : s.screenFitted n = true) :
    KeepsWash s (outOfService n (s.holdWash n)) := by
  have unmarked : ∀ y : Screen, (y.fast = true → y.state.drive = true) → ScreenOk (heldScreen y) :=
    fun y fast => ⟨fun _ => rfl, fast⟩
  intro h
  cases hx : (s.screen n).state
  case queued =>
    rw [holdWash_queued n s hx]
    refine h.leaves (unmarked _ fun on => ?_) (Or.inl rfl) hx (h.queue.without n)
    exact absurd on (by simp [parkedScreen, (h.screen n).fast_off (by rw [hx]; rfl)])
  case starting | washing =>
    rw [holdWash_slot n s (by simp [hx])]
    exact h.releases (unmarked _ fun _ => rfl) (Or.inl rfl) (by simp [hx])
  case parked | rundown | stalled =>
    rw [holdWash_rest n s (by simp [hx])]
    exact h.same hf (unmarked _ (h.screen n).fast) rfl

theorem holdScreenRule_keepsWash (o : WorkingCopy) (s : State) : KeepsWash s (holdScreenRule o s).1 := by
  rw [holdScreenRule_eq]
  exact forScreen_keepsWash _ s _ fun n hf => (outOfService_keepsWash n s hf).trans
    ((washOrderEnded_keepsWash _ _ _).trans (sendChokeFrom_keepsWash _ _))

theorem releaseScreenRule_keepsWash (o : WorkingCopy) (s : State) : KeepsWash s (releaseScreenRule o s).1 :=
  forScreen_keepsWash _ s _ fun n hf => setScreen_keepsWash s n _ hf (fun ok => ⟨nofun, ok.fast⟩) rfl

theorem resetScreenRule_keepsWash (o : WorkingCopy) (s : State) : KeepsWash s (resetScreenRule o s).1 := by
  refine forScreen_keepsWash _ s _ fun n hf => ?_
  dsimp only
  split
  · exact .refl s
  · next idle =>
    have hx : (s.screen n).state = .stalled := not_not.mp (not_or.mp idle).1
    intro h
    refine h.stays hf ((h.screen n).slow rfl rfl ?_) (by simp [hx]) (by rw [hx]; rfl) h.queue
    exact (h.screen n).fast_off (by rw [hx]; rfl)

theorem setScreenRule_keepsWash (o : WorkingCopy) (s : State) : KeepsWash s (setScreenRule o s).1 := by
  refine forScreen_keepsWash _ s _ fun n hf => ?_
  split
  · exact .refl s
  · exact ite_keepsWash (setScreen_keepsWash s n _ hf (fun ok => ⟨ok.held, ok.fast⟩) rfl) (.refl s)

/-! ## Differential reports (R126, R127) -/

/-- A record marked by a report: the mark set in service alone, FAST switched on in STARTING and WASHING alone (R127). -/
theorem ScreenOk.marked {x y : Screen} {reaches below onset : Bool} (h : ScreenOk x)
    (service : y.service = x.service) (inService : reaches = true → x.service = .inService)
    (choked : y.choked = if reaches then true else if below then false else x.choked)
    (fast : y.fast = (x.fast || (onset && (x.state == .starting || x.state == .washing))))
    (drive : x.state.drive = true → y.state.drive = true) : ScreenOk y := by
  refine ⟨fun held => ?_, fun on => drive ?_⟩
  · rw [service] at held
    have short : reaches = false := Bool.eq_false_iff.mpr fun hr => nomatch held.symm.trans (inService hr)
    rw [choked, short, h.held held]
    simp
  · rw [fast, Bool.or_eq_true, Bool.and_eq_true, ← holdsSlot_eq, holdsSlot_iff] at on
    rcases on with on | ⟨-, slot⟩
    · exact h.fast on
    · exact (drive_iff _).mpr (slot.imp_right Or.inl)

theorem differentialAt_keepsWash (n : ScreenNo) (d : Differential) (s : State) : KeepsWash s (s.differentialAt n d) := by
  intro h
  have flagged : ∀ (c : Bool) (x : Screen) (w : Wash), WashOk (withScreen s n x w) →
      WashOk (withScreen (if c then withFlag s .screen else s) n x w) := by
    intro c x w hx
    cases c
    · exact hx
    · exact withFlag_keepsWash _ .screen hx
  have inService : (d.valid && decide ((s.screen n).chokeThreshold ≤ d.value) && (s.screen n).service == .inService) = true →
      (s.screen n).service = .inService := fun reaches => by simpa using (Bool.and_eq_true_iff.mp reaches).2
  rw [differentialAt_eq]
  unfold differentialHandled
  dsimp only
  split
  · exact h
  · next fitted =>
    have hf : s.screenFitted n = true := by simpa using fitted
    split
    · next parks =>
      have hx : (s.screen n).state = .parked := by simpa using (Bool.and_eq_true_iff.mp parks).2
      refine flagged _ _ _ (h.joins hf ?_ rfl (by simp [hx]) (by rw [hx]; rfl) (h.queue.promoted _))
      exact (h.screen n).marked rfl inService rfl rfl fun drive => absurd drive (by rw [hx]; decide)
    · split
      · exact flagged _ _ _ (h.stays hf ((h.screen n).marked rfl inService rfl rfl id) .rfl rfl (h.queue.promoted _))
      · split <;>
          exact flagged _ _ _ (h.stays hf ((h.screen n).marked rfl inService rfl rfl id) .rfl rfl (h.queue.promoted _))

theorem differentialReport_keepsWash (s : State) : KeepsWash s s.differentialReport := by
  refine whenRunning_keepsWash _ s ?_
  split
  · exact .refl s
  · next report rest _ =>
    have delivered : KeepsWash s { s with wires := { s.wires with diffReports := rest } } := .of_eq rfl rfl rfl
    exact delivered.trans ((KeepsWash.foldl _ (fun t (m : ScreenNo × Differential) =>
      differentialAt_keepsWash m.1 m.2 t) report _).trans (sendChokeFrom_keepsWash _ _))

/-! ## The wash header (R138 to R147) -/

theorem setWash_keepsWash (s : State) (w : Wash) (queue : w.queue = s.wash.queue) (slots : w.slots = s.wash.slots)
    (capacity : w.capacity = s.wash.capacity) : KeepsWash s (s.setWash w) :=
  .of_wash rfl rfl queue slots fun room => by rw [show (s.setWash w).wash.capacity = _ from capacity]; exact room

theorem hear_keepsWash (s : State) (h : Measure) : KeepsWash s (s.setWash (s.wash.hear h)) := by
  by_cases pass : s.wash.passes h = true
  · rw [hear_passing pass]
    exact setWash_keepsWash _ _ rfl rfl rfl
  · rw [hear_failing pass]
    exact setWash_keepsWash _ _ rfl rfl rfl

/-- The names of the screens that a suspension reaches are those that hold a slot. -/
theorem suspending_names (s : State) :
    s.suspending.map Prod.fst = indices fun n => (s.screen n).state.holdsSlot := by
  unfold State.suspending
  rw [List.map_map]
  exact List.map_id _

theorem suspend_keepsWash (s : State) : KeepsWash s s.suspend := by
  intro h
  have screen : ∀ n, s.suspend.screen n =
      if (s.screen n).state.holdsSlot then (s.screen n).suspended else s.screen n := fun n => sel_tab _ n
  have names : ∀ n, n ∈ s.suspending.map Prod.fst ↔ (s.screen n).state.holdsSlot = true := fun n => by
    rw [suspending_names, mem_indices]
  have queue : QueueOk _ s.suspend.wash.queue := h.queue.reenter (by rw [suspending_names]; exact indices_nodup _)
    fun n hn waits => absurd ((names n).mp hn) (by rw [waits]; decide)
  refine ⟨queue.congr fun n => ?_, ?_, Nat.zero_le _, fun n => ?_, fun n hn => ?_⟩
  · rw [names, screen]
    split
    · next slot => exact iff_of_true (Or.inl slot) rfl
    · next free => exact or_iff_right free
  · rw [indices_none fun n => ?_]
    · rfl
    · rw [screen]
      split
      · rfl
      · next free => exact Bool.eq_false_of_not_eq_true free
  · rw [screen]
    split
    · exact (h.screen n).slow rfl rfl rfl
    · exact h.screen n
  · have cold := h.unfitted n hn
    rw [screen, cold]
    rfl

theorem hReport_keepsWash (s : State) : KeepsWash s s.hReport := by
  refine whenRunning_keepsWash _ s ?_
  split
  · exact .refl s
  · have heard : ∀ (w : Wires) (h : Measure), KeepsWash s (({ s with wires := w } : State).setWash (s.wash.hear h)) :=
      fun w h => .trans (t := s.setWash (s.wash.hear h)) (hear_keepsWash s h) (.of_eq rfl rfl rfl)
    exact .ite ((heard _ _).trans (suspend_keepsWash _)) (heard _ _)

theorem grant_keepsWash (s : State) : KeepsWash s s.grant := by
  by_cases run : s.phase = .running
  swap
  · rw [State.grant, s.whenRunning_idle _ run]
    exact .refl s
  by_cases due : s.wash.grantable = true
  swap
  · rw [grant_refused run due]
    exact .refl s
  obtain ⟨⟨room, -, -⟩, waiting⟩ := (grantable_iff _).mp due
  obtain ⟨⟨n, c⟩, rest, hq⟩ := List.exists_cons_of_ne_nil waiting
  intro h
  have queue := h.queue
  rw [hq] at queue
  have hx : (s.screen n).state = .queued := (queue.mem n).mp (by simp)
  rw [grant_serves run due hq]
  cases active : (s.screen n).overload with
  | false =>
    rw [grantTo_starts s n _ active]
    refine h.starts ⟨(h.screen n).held, fun _ => rfl⟩ rfl hx room queue.tail
  | true =>
    rw [grantTo_stalls s n _ active]
    refine withFlag_keepsWash _ _ (washOrderEnded_keepsWash _ _ _ ?_)
    exact h.leaves ((h.screen n).slow rfl rfl rfl) (Or.inr rfl) hx queue.tail

theorem setWashRule_keepsWash (o : WorkingCopy) (s : State) : KeepsWash s (setWashRule o s).1 := by
  unfold setWashRule
  dsimp only
  split
  · exact .refl s
  · split
    · exact .refl s
    · next room => exact .of_wash rfl rfl rfl rfl fun _ => Nat.le_of_not_lt room

end Sys2Proof
end


/-!
# The screens and the wash header at every step

The commands of the other units leave the screens' records and the wash header; power and RESET_N leave no wash; the commands of the
screen and wash units keep them in order one by one.
-/

section
namespace Sys2Proof

open Sys2Proof.Machine

/-! ## Events of the port and of the time, level, tide and alarm units -/

theorem hostWrite_keepsWash (a : Addr) (w : Word) (s : State) : KeepsWash s (s.hostWrite a w) := by
  have hand : ∀ e, KeepsWash s (s.writeHand e w) := fun e => by
    unfold State.writeHand
    split <;> exact .of_eq rfl rfl rfl
  have entry : ∀ e o, KeepsWash s (s.writeEntryWord e o w) := fun e o => by
    unfold State.writeEntryWord
    split <;> exact .of_eq rfl rfl rfl
  exact whenRunning_keepsWash _ s (.ite (.of_eq rfl rfl rfl) (.ite (hand _) (entry _ _)))

theorem snapshotRule_keepsWash (o : WorkingCopy) (s : State) : KeepsWash s (snapshotRule o s).1 := by
  refine ite_keepsWash (.refl s) (ite_keepsWash (.refl s) (ite_keepsWash (.refl s) ?_))
  dsimp only [reply]
  rw [State.writeWords_frame]
  exact .of_eq rfl rfl rfl

theorem sendSecond_keepsWash (old new : Clock) (s : State) : KeepsWash s (s.sendSecond old new) := by
  unfold State.sendSecond
  dsimp only
  split
  · split <;> exact .of_eq rfl rfl rfl
  · split <;> exact .of_eq rfl rfl rfl

/-- A second of a screen changes its watch and its clock alone, and a stopped one stays stopped. -/
theorem secondAtScreens_keepsWash (s : State) : KeepsWash s s.secondAtScreens :=
  tab_keepsWash s _ (fun _ => rfl) (fun _ ok => ⟨ok.held, ok.fast⟩) fun n cold => by
    rw [cold]
    rfl

theorem secondStep_keepsWash (s : State) : KeepsWash s s.secondStep := by
  unfold State.secondStep
  split
  case h_4 =>
    have counted : KeepsWash s s.stepClock.secondAtPumps := .of_eq rfl rfl rfl
    exact counted.trans ((secondAtScreens_keepsWash _).trans (sendSecond_keepsWash _ _ _))
  all_goals exact .of_eq rfl rfl rfl

theorem crystalFailure_keepsWash (s : State) : KeepsWash s s.crystalFailure := by
  unfold State.crystalFailure
  split
  · split
    case h_3 =>
      dsimp only
      split <;> exact .of_eq rfl rfl rfl
    all_goals exact .of_eq rfl rfl rfl
  · split <;> exact .of_eq rfl rfl rfl

theorem stepTimer_keepsWash (t : TimerNo) (u : TickUnit) (s : State) : KeepsWash s (s.stepTimer t u) := by
  have told : ∀ (o : TimerOwner) (x : State), KeepsWash x (x.tellOwner o) := by
    intro o x
    cases o <;> exact .of_eq rfl rfl rfl
  unfold State.stepTimer
  dsimp only
  split
  · split
    · exact .trans (t := s.setTimer t (s.timer t).expire) (.of_eq rfl rfl rfl) (told _ _)
    · exact .of_eq rfl rfl rfl
  · exact .refl s

theorem reloadInterval_keepsWash (n : ScreenNo) (s : State) : KeepsWash s (s.reloadInterval n) := by
  unfold State.reloadInterval
  split
  · exact .refl s
  · exact .ite (.of_eq rfl rfl rfl) (.refl s)

theorem setTimerRule_keepsWash (o : WorkingCopy) (s : State) : KeepsWash s (setTimerRule o s).1 := by
  have rewritten : ∀ (t : TimerNo) (w : TimerOwner) (u : TickUnit) (preset : Nat) (start : Bool),
      KeepsWash s (rewriteTimer t w u preset start s).1 := fun _ _ _ _ _ => ite_keepsWash (.refl s) (.of_eq rfl rfl rfl)
  refine forSixteen_keepsWash _ s _ fun t => ite_keepsWash (.refl s) ?_
  split
  · exact .refl s
  · refine ite_keepsWash (.refl s) (ite_keepsWash (.of_eq rfl rfl rfl) ?_)
    split
    · exact .refl s
    · unfold rewriteChecked
      split
      case h_2 => exact forScreen_keepsWash _ s _ fun _ _ => rewritten _ _ _ _ _
      all_goals exact rewritten _ _ _ _ _

theorem recompute_keepsWash (t : Tide) (s : State) : KeepsWash s (s.recompute t) := by
  rw [recompute_eq]
  exact .of_eq rfl rfl rfl

theorem alarmEvent_keepsWash (s : State) (unit : AlarmUnit) (f : Alarm → AlarmStep) : KeepsWash s (s.alarmEvent unit f) := by
  rw [alarmEvent_eq]
  exact .of_eq rfl rfl rfl

theorem scanCompletion_keepsWash (codes : Vector RawCode 16) (s : State) : KeepsWash s (s.scanCompletion codes) := by
  by_cases run : s.phase = .running
  · rw [scanCompletion_running s codes run]
    exact .of_eq rfl rfl rfl
  · rw [State.scanCompletion, s.whenRunning_idle _ run]
    exact .refl s

theorem loadTideRule_keepsWash (o : WorkingCopy) (s : State) : KeepsWash s (loadTideRule o s).1 := by
  refine ite_keepsWash (.refl s) (ite_keepsWash (.refl s) ?_)
  split
  · exact .refl s
  · exact .of_eq rfl rfl rfl

theorem takeSwap_keepsWash (s : State) : KeepsWash s s.takeSwap := by
  unfold State.takeSwap
  refine .ite (.refl s) (takeImmediate_keepsWash s _ _ fun _ t => ite_keepsWash (.refl t) ?_)
  exact (recompute_keepsWash _ t).trans (.of_eq rfl rfl rfl)

theorem setAlarmRule_keepsWash (o : WorkingCopy) (s : State) : KeepsWash s (setAlarmRule o s).1 := by
  refine forSixteen_keepsWash _ s _ fun i => ?_
  split
  · exact .refl s
  · refine ite_keepsWash (.refl s) ?_
    dsimp only [reply]
    rw [sendActionChangeFrom_eq]
    exact .of_eq rfl rfl rfl

/-! ## Events of the pump and duty units -/

theorem pumpEvent_keepsWash (p : PumpNo) (f : Pump → Pump) (s : State) : KeepsWash s (s.pumpEvent p f) := by
  rw [pumpEvent_eq]
  exact .of_eq rfl rfl rfl

theorem setPump_keepsWash (p : PumpNo) (x : Pump) (s : State) : KeepsWash s (s.setPump p x) := .of_eq rfl rfl rfl

theorem trip_keepsWash (cause : StopCause) (p : PumpNo) (s : State) : KeepsWash s (s.trip cause p) :=
  (pumpEvent_keepsWash p _ s).trans (.of_eq rfl rfl rfl)

theorem settlePumps_keepsWash (ps : List PumpNo) (s before : State) : KeepsWash s (State.settlePumps ps s before) := by
  have reevaluated := KeepsWash.foldl State.reevaluate (fun t p => setPump_keepsWash p _ t) ps s
  have reported := KeepsWash.foldl (State.reportIfChanged before)
    (fun t _ => .ite (.of_eq rfl rfl rfl) (.refl t)) ps (ps.foldl State.reevaluate s)
  exact reevaluated.trans (reported.trans (.ite (.refl _) (.of_eq rfl rfl rfl)))

theorem start_keepsWash (p : PumpNo) (s : State) : KeepsWash s (s.start p) :=
  .ite (.ite (pumpEvent_keepsWash p _ s) (.of_eq rfl rfl rfl)) (.refl s)

theorem proof_keepsWash (p : PumpNo) (s : State) : KeepsWash s (s.proof p) := by
  unfold State.proof
  split
  · exact pumpEvent_keepsWash p _ s
  all_goals exact .of_eq rfl rfl rfl

theorem unproof_keepsWash (p : PumpNo) (s : State) : KeepsWash s (s.unproof p) := by
  unfold State.unproof
  split <;> exact .of_eq rfl rfl rfl

theorem motorFault_keepsWash (p : PumpNo) (s : State) : KeepsWash s (s.motorFault p) := by
  unfold State.motorFault
  split
  case h_4 => exact pumpEvent_keepsWash p _ s
  case h_5 => exact .refl s
  all_goals exact trip_keepsWash _ p s

/-- A pump's field line, in every phase. -/
theorem pumpLine_keepsWash (p : PumpNo) (changes : Bool) (store event : State → State) (s : State)
    (hs : KeepsWash s (store s)) (he : ∀ t, KeepsWash t (event t)) : KeepsWash s (s.pumpLine p changes store event) := by
  refine .ite ?_ (.refl s)
  split
  · exact .refl s
  · exact .refl s
  · exact hs
  · exact hs.trans (he _)

theorem restartDelayEnd_keepsWash (p : PumpNo) (s : State) : KeepsWash s (s.restartDelayEnd p) := by
  refine .ite ?_ (.refl s)
  split
  · exact .refl s
  · exact .refl s
  · exact setPump_keepsWash p _ s
  · exact pumpEvent_keepsWash p _ s

/-- An order about a pump that answers with an event of that pump. -/
theorem pumpReply_keepsWash (answers : List Word) (p : PumpNo) (f : Pump → Pump) (s : State) :
    KeepsWash s (reply answers (s.pumpEvent p f)).1 := pumpEvent_keepsWash p f s

/-- A change of the duty record, settled as an event. -/
theorem setDuty_dutyEvent_keepsWash (s : State) (d before : Duty) : KeepsWash s ((s.setDuty d).dutyEvent before) :=
  ((setDuty_dutyOnly s d).trans (dutyEvent_dutyOnly _ before)).keepsWash

theorem hearReport_keepsWash (r : PumpReport) (s : State) : KeepsWash s (s.hearReport r) :=
  ((setDuty_dutyOnly s _).trans ((moveRules_dutyOnly _ r _).trans (dutyEvent_dutyOnly _ _))).keepsWash

theorem cancelChange_keepsWash (s : State) : KeepsWash s s.cancelChange := by
  unfold State.cancelChange
  split
  · exact ((askStop_dutyOnly s _).trans ((abandonChange_dutyOnly _ _ _ _ _).trans (dutyEvent_dutyOnly _ _))).keepsWash
  · exact .refl s
  · exact .refl s

theorem rotate_keepsWash (s : State) : KeepsWash s s.rotate :=
  .ite (.refl s) (.ite (.of_eq rfl rfl rfl) (setDuty_dutyEvent_keepsWash s _ _))

theorem changeRule_keepsWash (o : WorkingCopy) (s : State) : KeepsWash s (changeRule o s) := by
  unfold changeRule
  split
  · exact finish_keepsWash o s _ (.refl s)
  · split
    · exact finish_keepsWash o s _ (.refl s)
    · exact ((askStart_dutyOnly s _).trans ((setDuty_dutyOnly _ _).trans (dutyEvent_dutyOnly _ _))).keepsWash

theorem setRosterRule_keepsWash (o : WorkingCopy) (s : State) : KeepsWash s (setRosterRule o s).1 := by
  refine ite_keepsWash (.refl s) (ite_keepsWash (.refl s) ?_)
  split
  · exact .refl s
  · exact ite_keepsWash (.refl s) (ite_keepsWash (.refl s) (setDuty_dutyEvent_keepsWash s _ _))

/-! ## Power and RESET_N (R20 to R23) -/

/-- A part in which every screen rests with FAST off and no mark, no slot is held and none waits. -/
theorem washOk_atRest {s : State} (queue : s.wash.queue = []) (slots : s.wash.slots = 0)
    (rest : ∀ n, (s.screen n).state = .parked ∧ (s.screen n).fast = false ∧ (s.screen n).choked = false)
    (unfitted : ∀ n, s.screenFitted n = false → s.screen n = Screen.cold) : WashOk s := by
  have parked : ∀ n, (s.screen n).state = .parked := fun n => (rest n).1
  refine ⟨?_, ?_, by rw [slots]; exact Nat.zero_le _, fun n => ?_, unfitted⟩
  · rw [queue]
    exact queueOk_nil fun n => by simp [parked n]
  · rw [slots, indices_none fun n => by rw [parked n]; rfl]
    rfl
  · obtain ⟨-, fast, choked⟩ := rest n
    exact ⟨fun _ => choked, fun on => absurd on (by simp [fast])⟩

theorem powerOn_washOk (a b : BitVec 3) (s : State) : WashOk (s.powerOn a b) := by
  have cold : ∀ n, (s.powerOn a b).screen n = Screen.cold := fun n => sel_tab _ n
  refine washOk_atRest rfl rfl (fun n => ?_) fun n _ => cold n
  rw [cold]
  exact ⟨rfl, rfl, rfl⟩

theorem hold_keepsWash (s : State) : KeepsWash s s.hold := by
  intro h
  refine washOk_atRest rfl rfl (fun n => ?_) fun n (hn : s.screenFitted n = false) => ?_
  · rw [hold_screen]
    split
    · exact ⟨rfl, rfl, rfl⟩
    · next unfitted =>
      rw [h.unfitted n (Bool.eq_false_of_not_eq_true unfitted)]
      exact ⟨rfl, rfl, rfl⟩
  · rw [hold_screen, hn]
    exact h.unfitted n hn

theorem startUp_keepsWash (s : State) : KeepsWash s s.startUp := by
  have begun : KeepsWash s s.delaysBegin := .of_eq rfl rfl rfl
  unfold State.startUp
  split
  · exact .ite (begun.trans (hold_keepsWash _)) (.of_eq rfl rfl rfl)
  all_goals exact .refl s

theorem resetFall_keepsWash (s : State) : KeepsWash s s.resetFall := by
  have low : KeepsWash s { s with resetLow := true } := .of_eq rfl rfl rfl
  unfold State.resetFall
  split
  case h_3 => exact low.trans (hold_keepsWash _)
  case h_4 => exact .refl s
  all_goals exact low

/-- A reference to an order dropped leaves the screen's wash as it stands. -/
theorem dropHolders_keepsWash (e : Entry) (s : State) : KeepsWash s (s.dropHolders e) := by
  have dropped : KeepsWash s { s with
      screens := tab fun n => if (s.screen n).holds e then { s.screen n with washOrder := none } else s.screen n } := by
    refine tab_keepsWash s _ (fun n => ?_) (fun n ok => ?_) fun n cold => ?_
    · split <;> rfl
    · split
      · exact ⟨ok.held, ok.fast⟩
      · exact ok
    · rw [cold]
      rfl
  exact dropped.trans (.of_eq rfl rfl rfl)

theorem sweepEntry_keepsWash (s : State) (e : Entry) : KeepsWash s (s.sweepEntry e) := by
  unfold State.sweepEntry
  split
  case h_1 => exact complete_keepsWash _ _ _ _ _
  case h_2 | h_3 => exact (dropHolders_keepsWash e s).trans (complete_keepsWash _ _ _ _ _)
  case h_4 | h_5 => exact .refl s

theorem sweptPart_keepsWash (s : State) : KeepsWash s (sweptPart s) := by
  have resumes : KeepsWash s (resumed s) := .of_eq rfl rfl rfl
  have swept : KeepsWash (resumed s) (sweptTable (resumed s)) := by
    rw [sweptTable_eq]
    exact KeepsWash.foldl _ sweepEntry_keepsWash _ _
  exact resumes.trans (swept.trans (.of_eq rfl rfl rfl))

theorem resetRelease_keepsWash (s : State) : KeepsWash s s.resetRelease := by
  by_cases hp : s.phase = .held
  · have released : ∀ u : State, KeepsWash u (unitsReleased u) := fun _ => .of_eq rfl rfl rfl
    rw [resetRelease_held s hp]
    exact (sweptPart_keepsWash s).trans ((released _).trans (dutyEvent_dutyOnly _ _).keepsWash)
  · rw [resetRelease_idle s hp]
    exact .of_eq rfl rfl rfl

/-! ## Every command -/

/-- Power, RESET_N and the commands of the time, level, tide and alarm units keep it. -/
theorem exec_upstream_keepsWash (c : Instr) (s : State) (h : isUpstream c = true) :
    ∃ t, exec c s = .next t ∧ KeepsWash s t := by
  have delivered : ∀ w : Wires, KeepsWash s { s with wires := w } := fun _ => .of_eq rfl rfl rfl
  cases c
  case powerApplication a b => exact ⟨_, rfl, fun _ => powerOn_washOk a b s⟩
  case supplyLoss => exact ⟨_, rfl, .of_eq rfl rfl rfl⟩
  case coldStartUpCompletion => exact ⟨_, rfl, startUp_keepsWash s⟩
  case resetNFall => exact ⟨_, rfl, resetFall_keepsWash s⟩
  case resetNRelease => exact ⟨_, rfl, resetRelease_keepsWash s⟩
  case crystalConfirmed =>
    refine ⟨_, rfl, ?_⟩
    unfold State.crystalConfirmed
    split <;> exact .of_eq rfl rfl rfl
  case crystalFailure => exact ⟨_, rfl, crystalFailure_keepsWash s⟩
  case confirmPeriodRestart =>
    refine ⟨_, rfl, ?_⟩
    unfold State.confirmRestart
    split <;> exact .of_eq rfl rfl rfl
  case secondStep => exact ⟨_, rfl, secondStep_keepsWash s⟩
  case setTime => exact ⟨_, rfl, takeImmediate_keepsWash s _ _ fun _ t => ite_keepsWash (.of_eq rfl rfl rfl) (.refl t)⟩
  case setTimer => exact ⟨_, rfl, takeImmediate_keepsWash s _ _ setTimerRule_keepsWash⟩
  case stopTimer =>
    exact ⟨_, rfl, takeImmediate_keepsWash s _ _ fun _ t => forSixteen_keepsWash _ t _ fun _ => .of_eq rfl rfl rfl⟩
  case setChannel =>
    exact ⟨_, rfl, takeImmediate_keepsWash s _ _ fun _ t =>
      forSixteen_keepsWash _ t _ fun _ => ite_keepsWash (.of_eq rfl rfl rfl) (.refl t)⟩
  case setSea => exact ⟨_, rfl, takeImmediate_keepsWash s _ _ fun _ t => ite_keepsWash (.of_eq rfl rfl rfl) (.refl t)⟩
  case loadTide => exact ⟨_, rfl, takeImmediate_keepsWash s _ _ loadTideRule_keepsWash⟩
  case swapTide => exact ⟨_, rfl, takeSwap_keepsWash s⟩
  case setAlarm => exact ⟨_, rfl, takeImmediate_keepsWash s _ _ setAlarmRule_keepsWash⟩
  case ackAlarm => exact ⟨_, rfl, takeImmediate_keepsWash s _ _ fun _ _ => .of_eq rfl rfl rfl⟩
  case scanCompletion codes => exact ⟨_, rfl, scanCompletion_keepsWash codes s⟩
  case unitTick | minuteEventLevel | timeSetEventLevel =>
    refine ⟨_, rfl, whenRunning_keepsWash _ s ?_⟩
    split <;> exact .of_eq rfl rfl rfl
  case timerExpiry =>
    refine ⟨_, rfl, whenRunning_keepsWash _ s ?_⟩
    split
    · exact .refl s
    · exact (delivered _).trans (stepTimer_keepsWash _ _ _)
  case intervalRestart =>
    refine ⟨_, rfl, whenRunning_keepsWash _ s ?_⟩
    split
    · exact .refl s
    · exact (delivered _).trans (reloadInterval_keepsWash _ _)
  case minuteEventTide | timeSetEventTide | suspectChangeEventTide =>
    refine ⟨_, rfl, whenRunning_keepsWash _ s ?_⟩
    split
    · exact (delivered _).trans (recompute_keepsWash _ _)
    · exact .refl s
  case minuteEventAlarm | timeSetEventAlarm | suspectChangeEventAlarm =>
    refine ⟨_, rfl, whenRunning_keepsWash _ s ?_⟩
    split
    · exact (delivered _).trans (alarmEvent_keepsWash _ _ _)
    · exact .refl s
  case editionChangeEvent | seaReport | rateReport =>
    refine ⟨_, rfl, whenRunning_keepsWash _ s ?_⟩
    split
    · exact .refl s
    · exact (delivered _).trans (alarmEvent_keepsWash _ _ _)
  all_goals cases h

/-- The commands of the port, the screens, the wash header, the pumps and the duty unit keep it. -/
theorem exec_downstream_keepsWash (c : Instr) (s : State) (h : isUpstream c = false) :
    ∃ t, exec c s = .next t ∧ KeepsWash s t := by
  have delivered : ∀ w : Wires, KeepsWash s { s with wires := w } := fun _ => .of_eq rfl rfl rfl
  cases c
  case powerApplication | coldStartUpCompletion | supplyLoss | resetNFall | resetNRelease | crystalConfirmed |
      crystalFailure | confirmPeriodRestart | secondStep | unitTick | timerExpiry | intervalRestart | setTime | setTimer |
      stopTimer | setChannel | setSea | scanCompletion | minuteEventLevel | timeSetEventLevel | loadTide | swapTide |
      minuteEventTide | timeSetEventTide | suspectChangeEventTide | setAlarm | ackAlarm | minuteEventAlarm |
      timeSetEventAlarm | suspectChangeEventAlarm | editionChangeEvent | seaReport | rateReport => cases h
  case arrival | withdrawal | giveBack | cancelRequest | handIllegal | entryWordWrite | bulkWrite =>
    exact ⟨_, rfl, hostWrite_keepsWash _ _ s⟩
  case summaryWrite | enableWrite | readOnly => exact ⟨_, rfl, whenRunning_keepsWash _ s (.of_eq rfl rfl rfl)⟩
  case faultWrite => exact ⟨_, rfl, whenRunning_keepsWash _ s (.ite (.of_eq rfl rfl rfl) (.refl s))⟩
  case unknownKind => exact ⟨_, rfl, take_keepsWash s _ _ fun o t => finish_keepsWash o t _ (.refl t)⟩
  case describe => exact ⟨_, rfl, takeImmediate_keepsWash s _ _ fun _ t => .refl t⟩
  case snapshot => exact ⟨_, rfl, takeImmediate_keepsWash s _ _ snapshotRule_keepsWash⟩
  case setScreen => exact ⟨_, rfl, takeImmediate_keepsWash s _ _ setScreenRule_keepsWash⟩
  case wash => exact ⟨_, rfl, take_keepsWash s _ _ washRule_keepsWash⟩
  case holdScreen => exact ⟨_, rfl, takeImmediate_keepsWash s _ _ holdScreenRule_keepsWash⟩
  case releaseScreen => exact ⟨_, rfl, takeImmediate_keepsWash s _ _ releaseScreenRule_keepsWash⟩
  case resetScreen => exact ⟨_, rfl, takeImmediate_keepsWash s _ _ resetScreenRule_keepsWash⟩
  case setWash => exact ⟨_, rfl, takeImmediate_keepsWash s _ _ setWashRule_keepsWash⟩
  case setPump =>
    exact ⟨_, rfl, takeImmediate_keepsWash s _ _ fun _ t =>
      forPump_keepsWash _ t _ fun p => ite_keepsWash (pumpReply_keepsWash _ p _ t) (.refl t)⟩
  case holdPump | releasePump =>
    exact ⟨_, rfl, takeImmediate_keepsWash s _ _ fun _ t => forPump_keepsWash _ t _ fun p => pumpReply_keepsWash _ p _ t⟩
  case resetPump =>
    exact ⟨_, rfl, takeImmediate_keepsWash s _ _ fun _ t =>
      forPump_keepsWash _ t _ fun p => ite_keepsWash (.refl t) (pumpReply_keepsWash _ p _ t)⟩
  case setDemand | setChoke =>
    exact ⟨_, rfl, takeImmediate_keepsWash s _ _ fun _ t =>
      ite_keepsWash (.refl t) (ite_keepsWash (.refl t) (setDuty_dutyEvent_keepsWash t _ _))⟩
  case setRoster => exact ⟨_, rfl, takeImmediate_keepsWash s _ _ setRosterRule_keepsWash⟩
  case change => exact ⟨_, rfl, take_keepsWash s _ _ changeRule_keepsWash⟩
  case lockDuty => exact ⟨_, rfl, takeImmediate_keepsWash s _ _ fun _ _ => .of_eq rfl rfl rfl⟩
  case turnEdge n level =>
    exact ⟨_, rfl, line_keepsWash _ _ _ _ _ s
      (fun hf => setScreen_keepsWash s n _ hf (fun ok => ⟨ok.held, ok.fast⟩) rfl) (turn_keepsWash n)⟩
  case overloadEvent n level =>
    exact ⟨_, rfl, line_keepsWash _ _ _ _ _ s
      (fun hf => setScreen_keepsWash s n _ hf (fun ok => ⟨ok.held, ok.fast⟩) rfl) (overload_keepsWash n)⟩
  case proofEdge p => exact ⟨_, rfl, pumpLine_keepsWash p _ _ _ s (setPump_keepsWash p _ s) (proof_keepsWash p)⟩
  case proofDrop p => exact ⟨_, rfl, pumpLine_keepsWash p _ _ _ s (setPump_keepsWash p _ s) (unproof_keepsWash p)⟩
  case motorFaultEvent p => exact ⟨_, rfl, pumpLine_keepsWash p _ _ _ s (setPump_keepsWash p _ s) (motorFault_keepsWash p)⟩
  case motorFaultClear p => exact ⟨_, rfl, pumpLine_keepsWash p _ _ _ s (setPump_keepsWash p _ s) (pumpEvent_keepsWash p _)⟩
  case restartDelayEnd p => exact ⟨_, rfl, restartDelayEnd_keepsWash p s⟩
  case differentialReport => exact ⟨_, rfl, differentialReport_keepsWash s⟩
  case hReport => exact ⟨_, rfl, hReport_keepsWash s⟩
  case grant => exact ⟨_, rfl, grant_keepsWash s⟩
  all_goals refine ⟨_, rfl, whenRunning_keepsWash _ s ?_⟩
  case turnWatchExpiry n =>
    split
    · next due =>
      have slot := (holdsSlot_iff _).mp (Bool.and_eq_true_iff.mp due).1
      exact stallScreen_keepsWash n s ((drive_iff _).mpr (slot.imp_right Or.inl))
    · exact .refl s
  case rundownExpiry n =>
    split
    · next due => exact endRundown_keepsWash n s (by simpa using (Bool.and_eq_true_iff.mp due).1)
    · exact .refl s
  case washRequest n =>
    split
    · exact .refl s
    · dsimp only
      split
      · next hf => exact (delivered _).trans (request_keepsWash n _ _ hf)
      · exact delivered _
  case washCancel =>
    split
    · exact .refl s
    · exact .ite ((delivered _).trans (cancelWash_keepsWash _ _)) (delivered _)
  case runningPumpReport =>
    split
    · exact .refl s
    · exact .of_wash rfl rfl rfl rfl id
  case proveWatchExpiry p | lossWatchExpiry p => exact .ite (trip_keepsWash _ p s) (.refl s)
  case stoppingClockExpiry p => exact .ite (pumpEvent_keepsWash p _ s) (.refl s)
  case startRequest =>
    split
    · exact (delivered _).trans (start_keepsWash _ _)
    · exact .refl s
  case stopRequest =>
    split
    · exact (delivered _).trans (pumpEvent_keepsWash _ _ _)
    · exact .refl s
  case wReport =>
    split
    · exact .refl s
    · have heard : ∀ (t : State) (w : Measure), KeepsWash t (t.hearW w) := fun _ _ => .of_eq rfl rfl rfl
      exact (delivered _).trans ((heard _ _).trans
        ((settlePumps_keepsWash _ _ _).trans (setFlagIf_dutyOnly _ _ _).keepsWash))
  case wReportDuty =>
    split
    · exact .refl s
    · exact .of_eq rfl rfl rfl
  case chokeChangeEvent | actionChangeEvent =>
    split
    · exact .refl s
    · exact (delivered _).trans (setDuty_dutyEvent_keepsWash _ _ _)
  case pumpChangeReport =>
    split
    · exact .refl s
    · exact (delivered _).trans (hearReport_keepsWash _ _)
  case changeCancel =>
    split
    · exact .refl s
    · exact .ite ((delivered _).trans (cancelChange_keepsWash _)) (delivered _)
  case rotationExpiry =>
    split
    · exact .refl s
    · exact (delivered _).trans (rotate_keepsWash _)

theorem exec_keepsWash (c : Instr) (s : State) : ∃ t, exec c s = .next t ∧ KeepsWash s t := by
  cases hc : isUpstream c with
  | true => exact exec_upstream_keepsWash c s hc
  | false => exact exec_downstream_keepsWash c s hc

/-- Every step keeps the screens and the wash header in order, a source cycle included. -/
theorem step_keepsWash {s t : State} (h : step s = .next t) : KeepsWash s t := by
  unfold step at h
  split at h
  · cases h
    unfold State.sourceCycle
    split <;> exact .of_eq rfl rfl rfl
  · next c rest _ =>
    obtain ⟨u, exec, keeps⟩ := exec_keepsWash c { s with pending := rest }
    cases exec.symm.trans h
    exact .trans (t := { s with pending := rest }) (.of_eq rfl rfl rfl) keeps

/-! ## The outputs of a running part (R113, R114) -/

section outputs
variable {s : State} (n : ScreenNo) (run : s.phase = .running)
include run

theorem driveLine_iff : s.driveLine n = true ↔ s.screenFitted n = true ∧ (s.screen n).state.drive = true := by
  simp [State.driveLine, run, Phase.powered]

theorem sprayLine_iff : s.sprayLine n = true ↔ s.screenFitted n = true ∧ (s.screen n).state.holdsSlot = true := by
  simp [State.sprayLine, run, Phase.powered]

theorem fastLine_iff : s.fastLine n = true ↔ s.screenFitted n = true ∧ (s.screen n).fast = true := by
  simp [State.fastLine, run, Phase.powered]

end outputs

end Sys2Proof

open Sys2Proof Sys2Proof.Machine

/-- Settles O8: what a command does to the one record, queue and slots it changes keeps the terms of the invariant; the outputs are
read off the state. -/
theorem washInvKept : Obligations.WashInvKept := by
  refine ⟨fun s t h hs => (washInv_iff t).mpr (step_keepsWash hs ((washInv_iff s).mp h)), fun s n run => ?_⟩
  intro x
  refine ⟨?_, ?_, fastLine_iff n run, fun h on => ?_⟩
  · rw [driveLine_iff n run, drive_iff]
  · rw [sprayLine_iff n run, holdsSlot_iff]
  · obtain ⟨hf, fast⟩ := (fastLine_iff n run).mp on
    exact (driveLine_iff n run).mpr ⟨hf, (((washInv_iff s).mp h).screen n).fast fast⟩

end


/-!
# SET_WASH

The rule by its checks, in their order.
-/

section
namespace Sys2Proof

open Sys2Proof.Machine

/-! ## SET_WASH, check by check (R147) -/

/-- The range of each setting, the first three checks of R147. -/
def washSettingsInRange (o : WorkingCopy) : Prop :=
  1 ≤ o.num 3 ∧ o.num 3 ≤ 3 ∧ o.num 4 ≤ 2000 ∧ 1 ≤ o.num 5 ∧ o.num 5 ≤ 60

section setWash
variable {o : WorkingCopy} (s : State)

theorem setWashRule_outOfRange (bad : ¬washSettingsInRange o) : setWashRule o s = refuse .badArgument s := by
  unfold washSettingsInRange at bad
  exact if_pos (by omega)

/-- A setting in range passes the first three checks. -/
theorem setWashRule_inRange (ok : washSettingsInRange o) :
    setWashRule o s =
      if o.num 3 < s.wash.slots then (s, .wrongState, [0, 0, 0, word s.wash.slots])
      else
        reply [word s.wash.capacity, word s.wash.minPressure, word s.wash.tolerance, word s.wash.slots]
          (s.setWash { s.wash with capacity := o.num 3, minPressure := o.num 4, tolerance := o.num 5 }) := by
  unfold washSettingsInRange at ok
  exact if_neg (by omega)

end setWash

end Sys2Proof

open Sys2Proof Sys2Proof.Machine

/-- Settles O49: the range of the settings, then the capacity against the slots held. -/
theorem setWashStoresSettings : Obligations.SetWashStoresSettings := by
  intro s e rest h c p tolerance inRange
  have checks : washSettingsInRange (s.copyEntry e) ↔ inRange := by
    simp only [washSettingsInRange, copyEntry_argNum, Nat.reduceLeDiff]
    rfl
  have capacity : (s.copyEntry e).num 3 = c := copyEntry_argNum s e 3 (by omega) (by omega)
  have pressure : (s.copyEntry e).num 4 = p := copyEntry_argNum s e 4 (by omega) (by omega)
  have losses : (s.copyEntry e).num 5 = tolerance := copyEntry_argNum s e 5 (by omega) (by omega)
  have passed := fun ok => setWashRule_inRange (takenState s e rest) (checks.mpr ok)
  rw [capacity, pressure, losses] at passed
  refine ⟨fun bad => ?_, fun ok below => ?_, fun ok fits => ?_⟩
  · exact refused_of_rule (fun _ => rfl) rfl h (setWashRule_outOfRange _ (mt checks.mp bad))
  · exact ends_of_rule (fun _ => rfl) rfl h ((passed ok).trans (if_pos below))
  · exact ends_of_rule (fun _ => rfl) rfl h ((passed ok).trans (if_neg (Nat.not_lt.mpr fits)))

end


/-!
# Orders about a pump's record

The number in RUNNING; HOLD_PUMP, RELEASE_PUMP, RESET_PUMP and SET_PUMP by their checks, each an event at the one pump it names.
-/

section
namespace Sys2Proof

open Sys2Proof.Machine

/-! ## The number in RUNNING (R140) -/

/-- The fitted pumps that satisfy a predicate, ascending, in one selection. -/
theorem fittedPumpList_filter (s : State) (f : PumpNo → Bool) :
    s.fittedPumpList.filter f = indices fun p => s.pumpFitted p && f p := by
  unfold State.fittedPumpList indices
  rw [List.filter_filter]
  exact List.filter_congr fun p _ => Bool.and_comm _ _

theorem runningCount_isNumber : RunningCountIsNumber := fun s => congrArg List.length (fittedPumpList_filter s _)

/-! ## HOLD_PUMP, RELEASE_PUMP, RESET_PUMP and SET_PUMP (R165 to R168) -/

theorem pumpArgsOk_iff (o : WorkingCopy) :
    pumpArgsOk o = true ↔ 5 ≤ o.num 4 ∧ o.num 4 ≤ 120 ∧ 1 ≤ o.num 5 ∧ o.num 5 ≤ 30 ∧ 5 ≤ o.num 6 ∧ o.num 6 ≤ 300 ∧
      o.num 7 ≤ 900 := by
  unfold pumpArgsOk
  simp only [Bool.and_eq_true, decide_eq_true_eq, and_assoc]

section orders
variable {s : State} {e : Entry} {rest : List Entry} {p : PumpNo} (h3 : argNum s e 3 = p.1) (hf : s.pumpFitted p = true)
include h3 hf

theorem holdPumpRule_atHead :
    holdPumpRule (s.copyEntry e) (takenState s e rest) =
      reply [word (s.pump p).state.code, word (s.pump p).service.code]
        (pumpBecomes (takenState s e rest) p { (s.pump p).stopped .held with service := .outOfService }) := by
  unfold holdPumpRule
  rw [forPump_atHead s e rest p _ h3 hf, pumpEvent_eq]
  rfl

theorem releasePumpRule_atHead :
    releasePumpRule (s.copyEntry e) (takenState s e rest) =
      reply [word (s.pump p).service.code]
        (pumpBecomes (takenState s e rest) p { s.pump p with service := .inService }) := by
  unfold releasePumpRule
  rw [forPump_atHead s e rest p _ h3 hf, pumpEvent_eq]
  rfl

/-- RESET_PUMP by its check: the pump stands TRIPPED with no motor fault (R167). -/
theorem resetPumpRule_atHead :
    resetPumpRule (s.copyEntry e) (takenState s e rest) =
      if (s.pump p).state ≠ .tripped ∨ (s.pump p).motorFault = true then refuse .wrongState (takenState s e rest)
      else reply [word (stopCauseCode (s.pump p).lastStop)]
        (pumpBecomes (takenState s e rest) p (restingPump (s.pump p))) := by
  unfold resetPumpRule
  rw [forPump_atHead s e rest p _ h3 hf, pumpEvent_eq]
  rfl

/-- SET_PUMP by its checks; the answer is read after the event (R168, R169). -/
theorem setPumpRule_atHead :
    setPumpRule (s.copyEntry e) (takenState s e rest) =
      if pumpArgsOk (s.copyEntry e) then
        let t := pumpBecomes (takenState s e rest) p
          { s.pump p with
            proveTime := argNum s e 4, lossTolerance := argNum s e 5, stoppingTime := argNum s e 6
            restartDelay := argNum s e 7, minSubmergence := argInt s e 8 }
        reply [word (t.pump p).state.code, word (bit (t.pump p).available)] t
      else refuse .badArgument (takenState s e rest) := by
  unfold setPumpRule
  rw [forPump_atHead s e rest p _ h3 hf, pumpEvent_eq]
  simp only [copyEntry_argNum, copyEntry_argInt, Nat.reduceLeDiff]
  rfl

end orders

end Sys2Proof

open Sys2Proof Sys2Proof.Machine

/-- Settles O51: the checks of each order, then an event at the pump that it names. -/
theorem pumpRecordOrders : Obligations.PumpRecordOrders := by
  refine ⟨runningCount_isNumber, fun s e rest p h3 hf => ?_⟩
  intro x taken
  refine ⟨fun h => ?hold, fun h => ?release, fun h => ?reset, fun h => ?set⟩
  case hold =>
    have ends := ends_of_rule (c := .holdPump) (fun _ => rfl) rfl h (holdPumpRule_atHead h3 hf)
    refine ⟨fun runs => ?_, fun notStarting notRunning => ?_⟩
    · rwa [stopped_eq .held _ runs] at ends
    · rwa [stopped_idle .held _ notStarting notRunning] at ends
  case release => exact ends_of_rule (fun _ => rfl) rfl h (releasePumpRule_atHead h3 hf)
  case reset =>
    have rule := resetPumpRule_atHead h3 hf (rest := rest)
    refine ⟨fun refused => ?_, fun tripped healthy => ?_⟩
    · exact refused_of_rule (fun _ => rfl) rfl h (rule.trans (if_pos refused))
    · refine ends_of_rule (fun _ => rfl) rfl h (rule.trans (if_neg ?_))
      rintro (other | faulty)
      · exact other tripped
      · exact Bool.false_ne_true (healthy.symm.trans faulty)
  case set =>
    intro ok t
    have checks : pumpArgsOk (s.copyEntry e) = true ↔ ok := by
      simp only [pumpArgsOk_iff, copyEntry_argNum, Nat.reduceLeDiff]
      rfl
    have rule := setPumpRule_atHead h3 hf (rest := rest)
    exact ⟨fun bad => refused_of_rule (fun _ => rfl) rfl h (rule.trans (if_neg (mt checks.mp bad))),
      fun good => ends_of_rule (fun _ => rfl) rfl h (rule.trans (if_pos (checks.mpr good)))⟩

end


/-!
# A W report at the pump unit

What a report makes of one pump by its state and count; the reports that settle several pumps at once; the event in closed form.
-/

section
namespace Sys2Proof

open Sys2Proof.Machine

/-! ## One pump at a W report (R164) -/

section submergence
variable {w : Measure} {x : Pump}

theorem run_iff (y : PumpState) : y.run = true ↔ y = .starting ∨ y = .running := by cases y <;> decide

/-- The level that a W report counts against a pump (R164). -/
def tooLow (w : Measure) (x : Pump) : Prop := w.quality = .good ∧ w.value < x.minSubmergence

theorem nextSubmergence_low (low : tooLow w x) : x.nextSubmergence w = x.submergenceCount + 1 := if_pos low

theorem nextSubmergence_clear (clear : ¬tooLow w x) : x.nextSubmergence w = 0 := if_neg clear

theorem drawsAir_iff :
    x.drawsAir w = true ↔ (x.state = .starting ∨ x.state = .running) ∧ tooLow w x ∧ 20 ≤ x.submergenceCount + 1 := by
  unfold Pump.drawsAir submergenceLimit
  rw [Bool.and_eq_true, run_iff, decide_eq_true_eq]
  by_cases low : tooLow w x
  · rw [nextSubmergence_low low]
    simp [low]
  · rw [nextSubmergence_clear low]
    simp [low]

theorem hearW_stopped (stops : x.drawsAir w = true) : x.hearW w = stoppedFor .submergence x :=
  (if_pos stops).trans (stopped_eq .submergence x (drawsAir_iff.mp stops).1)

theorem hearW_running (runs : x.state = .starting ∨ x.state = .running) (stays : ¬x.drawsAir w = true) :
    x.hearW w = { x with submergenceCount := x.nextSubmergence w } :=
  (if_neg stays).trans (if_pos ((run_iff _).mpr runs))

theorem hearW_idle (idle : ¬(x.state = .starting ∨ x.state = .running)) : x.hearW w = x :=
  (if_neg fun stops => idle (drawsAir_iff.mp stops).1).trans (if_neg (mt (run_iff _).mp idle))

end submergence

/-! ## Several pumps settled (R154, R155) -/

/-- One report for each pump that changed, in the order of the list (R155). -/
theorem reportIfChanged_fold (before : State) (l : List PumpNo) (s : State) :
    l.foldl (State.reportIfChanged before) s =
      { s with wires := { s.wires with
          pumpReports := s.wires.pumpReports ++
            (l.filter fun p => (before.pump p).changed (s.pump p)).map fun p => s.pumpReport p false } } := by
  induction l generalizing s with
  | nil => simp
  | cons q l ih =>
    rw [List.foldl_cons, ih, List.filter_cons]
    unfold State.reportIfChanged
    split
    · simp only [State.sendReport, List.append_assoc, List.map_cons, List.singleton_append]
      rfl
    · rfl

/-- The fitted pumps settled after the records of the pump unit became `u`. -/
def settledPumps (s : State) (u : PumpUnit) : PumpUnit :=
  { u with
    records := tab fun p =>
      if s.pumpFitted p then { sel u.records p with available := (sel u.records p).canStart true u.lastW }
      else sel u.records p }

/-- The end of an event at all fitted pumps in closed form (R154, R155, R140). -/
theorem settlePumps_eq (s before : State) :
    State.settlePumps s.fittedPumpList s before =
      let t := { s with pumps := settledPumps s s.pumps }
      { t with wires := { s.wires with
          pumpReports := s.wires.pumpReports ++
            (indices fun p => s.pumpFitted p && (before.pump p).changed (t.pump p)).map fun p => t.pumpReport p false
          runningReports := s.wires.runningReports ++
            if t.runningCount = before.runningCount then [] else [t.runningCount] } } := by
  have records : (tab fun p => if p ∈ s.fittedPumpList then { s.pump p with available := s.canStart p } else s.pump p) =
      (settledPumps s s.pumps).records := by
    refine table_ext _ _ fun p => ?_
    simp only [settledPumps, sel_tab, State.fittedPumpList, mem_indices]
    split
    · next hf =>
      unfold State.canStart
      rw [hf]
      rfl
    · rfl
  unfold State.settlePumps
  rw [reevaluate_fold, records, reportIfChanged_fold, reportRunning_eq, fittedPumpList_filter]
  rfl

/-! ## The report (R164) -/

/-- The pump unit after a W report. -/
def heardPumps (s : State) (w : Measure) : PumpUnit := settledPumps s (s.hearW w).pumps

theorem wReport_head {s : State} {w : Measure} {rest : List Measure} (run : s.phase = .running)
    (hw : s.wires.wToPump = w :: rest) :
    s.wReport =
      let t := { s with pumps := heardPumps s w }
      { t with
        port := flaggedIf (s.fittedPumpList.any fun p => (s.pump p).drawsAir w) .pump s.port
        wires := { s.wires with
          wToPump := rest
          pumpReports := s.wires.pumpReports ++
            (indices fun p => s.pumpFitted p && (s.pump p).changed (t.pump p)).map fun p => t.pumpReport p false
          runningReports := s.wires.runningReports ++
            if t.runningCount = s.runningCount then [] else [t.runningCount] } } := by
  have settled := settlePumps_eq ((withWires s { s.wires with wToPump := rest }).hearW w) s
  unfold State.wReport
  rw [s.whenRunning_running _ run, hw]
  refine (congrArg (State.setFlagIf _ .pump) settled).trans ?_
  cases s.fittedPumpList.any fun p => (s.pump p).drawsAir w <;> rfl

/-- Whether a W report stops any pump. -/
theorem anyDrawsAir_iff (s : State) (w : Measure) :
    (s.fittedPumpList.any fun p => (s.pump p).drawsAir w) = true ↔
      ∃ p, s.pumpFitted p = true ∧ (s.pump p).drawsAir w = true := by
  simp only [List.any_eq_true, State.fittedPumpList, mem_indices]

section heard
variable {s : State} {w : Measure} {p : PumpNo}

theorem heardPumps_unfitted (hf : s.pumpFitted p = false) : sel (heardPumps s w).records p = s.pump p := by
  simp [heardPumps, settledPumps, State.hearW, hf]

theorem heardPumps_fitted (hf : s.pumpFitted p = true) :
    sel (heardPumps s w).records p =
      { (s.pump p).hearW w with available := ((s.pump p).hearW w).canStart true w } := by
  simp [heardPumps, settledPumps, State.hearW, hf]

end heard

end Sys2Proof

open Sys2Proof Sys2Proof.Machine

/-- Settles O54: each fitted pump by its state, the level and its count; then the reports of the pumps that changed. -/
theorem wReportGuardsSubmergence : Obligations.WReportGuardsSubmergence := by
  refine ⟨runningCount_isNumber, fun s w rest run hw => ⟨_, congrArg Host.Outcome.next (wReport_head run hw), rfl, rfl, ?_⟩⟩
  intro runs low stops settled changed
  have stops_iff : ∀ p, (s.pump p).drawsAir w = true ↔ stops p := fun _ => drawsAir_iff
  refine ⟨fun p hf => heardPumps_unfitted hf, fun p hf => ?pump, fun stopping => ?flag, fun calm => ?clear, ?reports⟩
  case pump =>
    have fitted := heardPumps_fitted (w := w) hf
    refine ⟨fun air => ?_, fun hr hl stays => ?_, fun hr hl => ?_, fun idle => ?_⟩
    · exact hearW_stopped ((stops_iff p).mpr air) ▸ fitted
    · have heard := hearW_running hr (mt (stops_iff p).mp stays)
      rw [nextSubmergence_low hl] at heard
      exact heard ▸ fitted
    · have heard := hearW_running hr fun air => hl ((stops_iff p).mp air).2.1
      rw [nextSubmergence_clear hl] at heard
      exact heard ▸ fitted
    · exact hearW_idle idle ▸ fitted
  case flag =>
    have any := (anyDrawsAir_iff s w).mpr (stopping.imp fun p ⟨hf, air⟩ => ⟨hf, (stops_iff p).mpr air⟩)
    dsimp only
    rw [any]
    rfl
  case clear =>
    have any := mt (anyDrawsAir_iff s w).mp fun ⟨p, hf, air⟩ => calm p hf ((stops_iff p).mp air)
    dsimp only
    rw [Bool.eq_false_of_not_eq_true any]
    rfl
  case reports =>
    have same : ∀ p, (s.pump p).changed (sel (heardPumps s w).records p) = changed p := fun p => by
      unfold Pump.changed
      rw [bne_comm, bne_comm (a := (s.pump p).service), bne_comm (a := (s.pump p).available)]
      rfl
    have pumps : (fun p => s.pumpFitted p && (s.pump p).changed (sel (heardPumps s w).records p)) =
        fun p => s.pumpFitted p && changed p := funext fun p => congrArg (s.pumpFitted p && ·) (same p)
    rw [← pumps]
    rfl

end


/-!
# The events at one pump

A start and a stop request, the field lines and the expiries by the state that the pump stands in, each brought to the record
that the pump takes (`pumpBecomes`).
-/

section
namespace Sys2Proof

open Sys2Proof.Machine

/-! ## One pump's record replaced -/

section replaced
variable (s : State) (p : PumpNo) (x y : Pump)

theorem setPump_setPump : (s.setPump p x).setPump p y = s.setPump p y := by
  unfold State.setPump
  rw [upd_upd]

/-- The number in RUNNING counts states alone (R140). -/
theorem runningCount_setPump (state : x.state = (s.pump p).state) : (s.setPump p x).runningCount = s.runningCount := by
  have same : ∀ q, ((s.setPump p x).pump q).state = (s.pump q).state := fun q => by
    rw [State.pump_setPump]
    split
    · next hq => rw [hq, state]
    · rfl
  unfold State.runningCount
  simp only [same]
  rfl

/-- An event does not see what the same event wrote before, where no report tells of it (R155). -/
theorem pumpBecomes_setPump (state : x.state = (s.pump p).state) (service : x.service = (s.pump p).service)
    (available : x.available = (s.pump p).available) : pumpBecomes (s.setPump p x) p y = pumpBecomes s p y := by
  unfold pumpBecomes
  rw [State.pump_setPump_same, runningCount_setPump s p x state, state, service, available]
  simp only [State.setPump_pumps, upd_upd]
  rfl

/-- An event that leaves a settled record changes nothing and tells nothing (R155). -/
theorem pumpBecomes_settled (available : (s.pump p).available = s.canStart p) : pumpBecomes s p (s.pump p) = s := by
  have record : ({ s.pump p with available := (s.pump p).canStart (s.pumpFitted p) s.pumps.lastW } : Pump) = s.pump p :=
    congrArg (fun b => ({ s.pump p with available := b } : Pump)) available.symm
  unfold pumpBecomes
  rw [record]
  simp [State.pump]

end replaced

/-! ## Availability (R154) and RUN (R152) -/

/-- The terms of availability at a fitted pump (R154). -/
theorem canStart_iff {s : State} {p : PumpNo} (hf : s.pumpFitted p = true) :
    s.canStart p = true ↔
      (s.pump p).service = .inService ∧ (s.pump p).state = .stopped ∧ (s.pump p).delayRemaining = 0 ∧
        (s.pump p).motorFault = false ∧ s.pumps.lastW.quality = .good ∧
        (s.pump p).minSubmergence ≤ s.pumps.lastW.value := by
  simp [State.canStart, Pump.canStart, Pump.deepEnough, hf, and_assoc]

theorem runLine_iff {s : State} (p : PumpNo) (run : s.phase = .running) :
    s.runLine p = true ↔ s.pumpFitted p = true ∧ ((s.pump p).state = .starting ∨ (s.pump p).state = .running) := by
  rw [← run_iff]
  simp [State.runLine, run, Phase.powered]

/-! ## Requests (R156, R160) -/

section requests
variable {s : State} {p : PumpNo} {rest : List PumpRequest}

theorem start_available (hf : s.pumpFitted p = true) (h : s.canStart p = true) :
    s.start p = pumpBecomes s p (s.pump p).started := by
  unfold State.start
  rw [if_pos hf, if_pos h, pumpEvent_eq]

theorem start_refused (hf : s.pumpFitted p = true) (h : ¬s.canStart p = true) : s.start p = s.sendReport p true := by
  unfold State.start
  rw [if_pos hf, if_neg h]

theorem startRequest_head (run : s.phase = .running) (hr : s.wires.pumpRequests = .start p :: rest) :
    s.startRequest = (withWires s { s.wires with pumpRequests := rest }).start p := by
  unfold State.startRequest
  rw [s.whenRunning_running _ run, hr]
  rfl

theorem stopRequest_head (run : s.phase = .running) (hr : s.wires.pumpRequests = .stop p :: rest) :
    s.stopRequest =
      pumpBecomes (withWires s { s.wires with pumpRequests := rest }) p ((s.pump p).stopped .duty) := by
  unfold State.stopRequest
  rw [s.whenRunning_running _ run, hr]
  exact pumpEvent_eq _ p _

end requests

/-! ## Field lines (R153, log 15) -/

section line
variable {s : State} {p : PumpNo} {changes : Bool} {store event : State → State}

/-- A line that already stands at the level has no event. -/
theorem pumpLine_still (still : changes = false) : s.pumpLine p changes store event = s := by
  unfold State.pumpLine
  rw [still, Bool.and_false]
  rfl

/-- A line that is not read has no event: of a pump that is not fitted, without supply and in the cold start-up. -/
theorem pumpLine_unread (h : s.pumpFitted p = false ∨ s.phase = .unpowered ∨ s.phase = .coldStart) :
    s.pumpLine p changes store event = s := by
  unfold State.pumpLine
  rcases h with hf | hp | hp
  · rw [hf]
    rfl
  · rw [hp]
    exact ite_self s
  · rw [hp]
    exact ite_self s

/-- In the hold the level alone is kept. -/
theorem pumpLine_held (hf : s.pumpFitted p = true) (held : s.phase = .held) (h : changes = true) :
    s.pumpLine p changes store event = store s := by
  unfold State.pumpLine
  rw [hf, h, held]
  rfl

/-- While the part runs a change of the level is an event. -/
theorem pumpLine_running (hf : s.pumpFitted p = true) (run : s.phase = .running) (h : changes = true) :
    s.pumpLine p changes store event = event (store s) := by
  unfold State.pumpLine
  rw [hf, h, run]
  rfl

end line

/-! ## PROOF (R157, R158) -/

section proof
variable {s : State} {p : PumpNo}

theorem proof_starting (h : (s.pump p).state = .starting) :
    s.proof p = pumpBecomes s p { s.pump p with state := .running, proveWatch := none, lossWatch := none } := by
  unfold State.proof
  rw [h]
  exact pumpEvent_eq s p _

theorem proof_running (h : (s.pump p).state = .running) : s.proof p = s.setPump p { s.pump p with lossWatch := none } := by
  unfold State.proof
  rw [h]

theorem proof_idle (h : (s.pump p).state ≠ .starting) (h' : (s.pump p).state ≠ .running) : s.proof p = s := by
  unfold State.proof
  split
  · next hs => exact absurd hs h
  · next hs => exact absurd hs h'
  all_goals rfl

theorem unproof_running (h : (s.pump p).state = .running) :
    s.unproof p = s.setPump p { s.pump p with lossWatch := some (s.pump p).lossTolerance } := by
  unfold State.unproof
  rw [h]

theorem unproof_idle (h : (s.pump p).state ≠ .running) : s.unproof p = s := by
  unfold State.unproof
  split
  · next hs => exact absurd hs h
  all_goals rfl

end proof

end Sys2Proof

open Sys2Proof Sys2Proof.Machine

/-- Settles O52: each request by the availability or the state that it finds, each line by the phase and then the state. -/
theorem pumpStartStopAndProof : Obligations.PumpStartStopAndProof := by
  refine ⟨fun s p run => runLine_iff p run, fun s p rest run hf => ?requests, fun s p => ?lines⟩
  case requests =>
    intro x t ready
    have ready_iff : t.canStart p = true ↔ ready := canStart_iff (s := t) hf
    refine ⟨fun hr => ⟨fun isReady => ?_, fun notReady => ?_⟩, fun hr inv => ?_⟩
    · exact congrArg Host.Outcome.next
        ((startRequest_head run hr).trans (start_available (s := t) hf (ready_iff.mpr isReady)))
    · exact congrArg Host.Outcome.next
        ((startRequest_head run hr).trans (start_refused (s := t) hf (mt ready_iff.mp notReady)))
    · have stop : exec .stopRequest s = .next (pumpBecomes t p (x.stopped .duty)) :=
        congrArg Host.Outcome.next (stopRequest_head run hr)
      obtain ⟨available, -, -⟩ := inv
      refine ⟨fun runs => ?_, fun notStarting notRunning => ?_⟩
      · rw [stopped_eq .duty _ runs] at stop
        exact stop
      · rw [stopped_idle .duty _ notStarting notRunning] at stop
        exact stop.trans (congrArg Host.Outcome.next (pumpBecomes_settled t p (available p)))
  case lines =>
    intro x up down record
    have upRecord : ∀ y : Pump, (s.setPump p up).setPump p y = record y := setPump_setPump s p up
    have downRecord : ∀ y : Pump, (s.setPump p down).setPump p y = record y := setPump_setPump s p down
    have upPump : (s.setPump p up).pump p = up := State.pump_setPump_same s p up
    have downPump : (s.setPump p down).pump p = down := State.pump_setPump_same s p down
    refine ⟨fun unread => ?_, fun high => ?_, fun low => ?_, fun hf held => ?_, fun hf run => ?_⟩
    · exact ⟨congrArg Host.Outcome.next (pumpLine_unread unread), congrArg Host.Outcome.next (pumpLine_unread unread)⟩
    · exact congrArg Host.Outcome.next (pumpLine_still (by rw [high]; rfl))
    · exact congrArg Host.Outcome.next (pumpLine_still low)
    · exact ⟨fun low => congrArg Host.Outcome.next (pumpLine_held hf held (by rw [low]; rfl)),
        fun high => congrArg Host.Outcome.next (pumpLine_held hf held high)⟩
    · refine ⟨fun low => ?edge, fun high => ?drop⟩
      case edge =>
        have edge : exec (.proofEdge p) s = .next ((s.setPump p up).proof p) :=
          congrArg Host.Outcome.next (pumpLine_running hf run (by rw [low]; rfl))
        refine ⟨fun starting => ?_, fun running => ?_, fun notStarting notRunning => ?_⟩
        · rw [edge, proof_starting (by rw [upPump]; exact starting), upPump, pumpBecomes_setPump s p up _ rfl rfl rfl]
        · rw [edge, proof_running (by rw [upPump]; exact running), upPump, upRecord]
        · rw [edge, proof_idle (by rw [upPump]; exact notStarting) (by rw [upPump]; exact notRunning)]
          rfl
      case drop =>
        have drop : exec (.proofDrop p) s = .next ((s.setPump p down).unproof p) :=
          congrArg Host.Outcome.next (pumpLine_running hf run high)
        refine ⟨fun running => ?_, fun notRunning => ?_⟩
        · rw [drop, unproof_running (by rw [downPump]; exact running), downPump, downRecord]
        · rw [drop, unproof_idle (by rw [downPump]; exact notRunning)]
          rfl

end


/-!
# Trips and the way back to rest

Each expiry by whether it is due, a motor fault by the pump's state, the end of the restart delay by the phase.
-/

section
namespace Sys2Proof

open Sys2Proof.Machine

variable {s : State} {p : PumpNo}

/-! ## Expiries (R157, R158, R161, log 7) -/

theorem proveWatchExpiry_running (run : s.phase = .running) :
    s.proveWatchExpiry p =
      if (s.pump p).state = .starting ∧ (s.pump p).proveWatch = some 0 then s.trip .proofFail p else s := by
  unfold State.proveWatchExpiry
  rw [s.whenRunning_running _ run]
  simp

theorem lossWatchExpiry_running (run : s.phase = .running) :
    s.lossWatchExpiry p =
      if (s.pump p).state = .running ∧ (s.pump p).lossWatch = some 0 then s.trip .proofLost p else s := by
  unfold State.lossWatchExpiry
  rw [s.whenRunning_running _ run]
  simp

theorem stoppingClockExpiry_running (run : s.phase = .running) :
    s.stoppingClockExpiry p =
      if (s.pump p).state = .stopping ∧ (s.pump p).stoppingClock = some 0 then pumpBecomes s p (restingPump (s.pump p))
      else s := by
  unfold State.stoppingClockExpiry
  rw [s.whenRunning_running _ run, pumpEvent_eq, atRest_eq]
  simp

/-! ## MOTOR_FAULT (R162) -/

theorem motorFault_trips
    (h : (s.pump p).state = .starting ∨ (s.pump p).state = .running ∨ (s.pump p).state = .stopping) :
    s.motorFault p = withFlag (pumpBecomes s p (trippedFor .motorTrip (s.pump p))) .pump := by
  rw [← trip_eq]
  unfold State.motorFault
  rcases h with h | h | h <;> rw [h]

theorem motorFault_stopped (h : (s.pump p).state = .stopped) : s.motorFault p = pumpBecomes s p (s.pump p) := by
  unfold State.motorFault
  rw [h]
  exact pumpEvent_eq s p _

theorem motorFault_tripped (h : (s.pump p).state = .tripped) : s.motorFault p = s := by
  unfold State.motorFault
  rw [h]

/-! ## The end of the restart delay (R161, R171, log 8) -/

theorem restartDelayEnd_unread (h : s.pumpFitted p = false ∨ s.phase = .unpowered ∨ s.phase = .coldStart) :
    s.restartDelayEnd p = s := by
  unfold State.restartDelayEnd
  rcases h with hf | hp | hp
  · rw [if_neg fun due => Bool.false_ne_true (hf.symm.trans ((delayEnds_iff s p).mp due).1)]
  · rw [hp]
    exact ite_self s
  · rw [hp]
    exact ite_self s

theorem restartDelayEnd_held (held : s.phase = .held) (due : s.delayEnds p = true) :
    s.restartDelayEnd p = s.setPump p (s.pump p).delayOver := by
  unfold State.restartDelayEnd
  rw [if_pos due, held]

theorem restartDelayEnd_running (run : s.phase = .running) (due : s.delayEnds p = true) :
    s.restartDelayEnd p = pumpBecomes s p (s.pump p).delayOver := by
  unfold State.restartDelayEnd
  rw [if_pos due, run]
  exact pumpEvent_eq s p _

end Sys2Proof

open Sys2Proof Sys2Proof.Machine

/-- Settles O53: each expiry by whether it is due, each line and the end of the delay by the phase and then the state. -/
theorem pumpTripsAndRest : Obligations.PumpTripsAndRest := by
  intro s p x trip faulty healthy record
  have faultyPump : (s.setPump p faulty).pump p = faulty := State.pump_setPump_same s p faulty
  have healthyPump : (s.setPump p healthy).pump p = healthy := State.pump_setPump_same s p healthy
  have becomesFaulty : ∀ y, pumpBecomes (s.setPump p faulty) p y = pumpBecomes s p y := fun y =>
    pumpBecomes_setPump s p faulty y rfl rfl rfl
  refine ⟨fun run => ?expiries, fun unread => ?_, fun high => ?_, fun low => ?_, fun early => ?_, fun hf held => ?held,
    fun hf run => ?running⟩
  case expiries =>
    have prove : exec (.proveWatchExpiry p) s = .next _ := congrArg Host.Outcome.next (proveWatchExpiry_running run)
    have loss : exec (.lossWatchExpiry p) s = .next _ := congrArg Host.Outcome.next (lossWatchExpiry_running run)
    have stopping : exec (.stoppingClockExpiry p) s = .next _ := congrArg Host.Outcome.next (stoppingClockExpiry_running run)
    refine ⟨fun state watch => ?_, fun idle => ?_, fun state watch => ?_, fun idle => ?_, fun state watch => ?_, fun idle => ?_⟩
    · rw [prove, if_pos ⟨state, watch⟩, trip_eq]
    · rw [prove, if_neg idle]
    · rw [loss, if_pos ⟨state, watch⟩, trip_eq]
    · rw [loss, if_neg idle]
    · rw [stopping, if_pos ⟨state, watch⟩]
    · rw [stopping, if_neg idle]
  · exact ⟨congrArg Host.Outcome.next (pumpLine_unread unread), congrArg Host.Outcome.next (pumpLine_unread unread),
      congrArg Host.Outcome.next (restartDelayEnd_unread unread)⟩
  · exact congrArg Host.Outcome.next (pumpLine_still (by rw [high]; rfl))
  · exact congrArg Host.Outcome.next (pumpLine_still low)
  · refine congrArg Host.Outcome.next (restartDelayEnd_idle s p (Bool.eq_false_iff.mpr fun due => early ?_))
    exact ((delayEnds_iff s p).mp due).2
  case held =>
    refine ⟨fun low => ?_, fun high => ?_, fun stopped one due => ?_⟩
    · exact congrArg Host.Outcome.next (pumpLine_held hf held (by rw [low]; rfl))
    · exact congrArg Host.Outcome.next (pumpLine_held hf held high)
    · exact congrArg Host.Outcome.next (restartDelayEnd_held held ((delayEnds_iff s p).mpr ⟨hf, stopped, one, due⟩))
  case running =>
    refine ⟨fun low => ?fault, fun high => ?_, fun stopped one due => ?_⟩
    case fault =>
      have event : exec (.motorFaultEvent p) s = .next ((s.setPump p faulty).motorFault p) :=
        congrArg Host.Outcome.next (pumpLine_running hf run (by rw [low]; rfl))
      refine ⟨fun drives => ?_, fun stopped => ?_, fun tripped => ?_⟩
      · rw [event, motorFault_trips (by rw [faultyPump]; exact drives), faultyPump, becomesFaulty]
      · rw [event, motorFault_stopped (by rw [faultyPump]; exact stopped), faultyPump, becomesFaulty]
      · rw [event, motorFault_tripped (by rw [faultyPump]; exact tripped)]
        rfl
    · have clear : exec (.motorFaultClear p) s = .next ((s.setPump p healthy).pumpEvent p fun y => y) :=
        congrArg Host.Outcome.next (pumpLine_running hf run high)
      rw [clear, pumpEvent_eq, healthyPump, pumpBecomes_setPump s p healthy _ rfl rfl rfl]
    · exact congrArg Host.Outcome.next (restartDelayEnd_running run ((delayEnds_iff s p).mpr ⟨hf, stopped, one, due⟩))

end


/-!
# What leaves the pump unit

Only the pump unit's own events, a second and a reset reach a pump's record or the last W: every other command leaves both
(`PumpsStand`). The relation composes, so that each event is followed once.
-/

section
namespace Sys2Proof

open Sys2Proof.Machine

/-- The pump records and the last W stand. -/
def PumpsStand (s t : State) : Prop := t.pumps = s.pumps

theorem PumpsStand.refl (s : State) : PumpsStand s s := rfl

theorem PumpsStand.trans {s t u : State} (h : PumpsStand s t) (h' : PumpsStand t u) : PumpsStand s u := Eq.trans h' h

theorem PumpsStand.ite {s t u : State} {c : Prop} [Decidable c] (ht : PumpsStand s t) (hu : PumpsStand s u) :
    PumpsStand s (if c then t else u) := by
  split
  · exact ht
  · exact hu

theorem PumpsStand.foldl {α : Type} (f : State → α → State) (h : ∀ s a, PumpsStand s (f s a)) (l : List α) (s : State) :
    PumpsStand s (l.foldl f s) := by
  induction l generalizing s with
  | nil => exact .refl s
  | cons a l ih => exact (h s a).trans (ih (f s a))

theorem DutyOnly.pumpsStand {s t : State} (h : DutyOnly s t) : PumpsStand s t := by
  unfold DutyOnly at h
  rw [h]
  exact rfl

theorem whenRunning_pumpsStand (f : State → State) (s : State) (h : PumpsStand s (f s)) : PumpsStand s (s.whenRunning f) := by
  unfold State.whenRunning
  split
  · exact h
  all_goals exact .refl s

/-! ## Completions and takes (R10, R13) -/

theorem finish_pumpsStand (o : WorkingCopy) (s : State) (r : Reply) (h : PumpsStand s r.1) : PumpsStand s (finish o r) :=
  h.trans (complete_dutyOnly _ _ _ _ _).pumpsStand

theorem take_pumpsStand (s : State) (kind : Option OrderKind) (body : WorkingCopy → State → State)
    (h : ∀ o t, PumpsStand t (body o t)) : PumpsStand s (s.take kind body) := by
  rcases s.take_cases kind body with ht | ⟨e, rest, -, -, -, ht⟩
  · rw [ht]
    exact .refl s
  · rw [ht]
    exact .trans (t := takenState s e rest) rfl (h _ _)

theorem takeImmediate_pumpsStand (s : State) (kind : OrderKind) (rule : WorkingCopy → State → Reply)
    (h : ∀ o t, PumpsStand t (rule o t).1) : PumpsStand s (s.takeImmediate kind rule) :=
  take_pumpsStand s _ _ fun o t => finish_pumpsStand o t _ (h o t)

/-- A rule that refuses or answers, by a condition. -/
theorem ite_pumpsStand {c : Prop} [Decidable c] {s : State} {a b : Reply} (ha : PumpsStand s a.1) (hb : PumpsStand s b.1) :
    PumpsStand s (if c then a else b).1 := by
  split
  · exact ha
  · exact hb

theorem forScreen_pumpsStand (w : Word) (s : State) (k : ScreenNo → Reply) (h : ∀ n, PumpsStand s (k n).1) :
    PumpsStand s (forScreen w s k).1 := by
  rcases forScreen_cases w s k with hk | hk | ⟨n, -, hk⟩ <;> rw [hk]
  · exact .refl s
  · exact .refl s
  · exact h n

theorem forSixteen_pumpsStand (w : Word) (s : State) (k : Fin 16 → Reply) (h : ∀ i, PumpsStand s (k i).1) :
    PumpsStand s (forSixteen w s k).1 := by
  rcases forSixteen_cases w s k with hk | ⟨i, hk⟩ <;> rw [hk]
  · exact .refl s
  · exact h i

/-! ## The port -/

theorem hostWrite_pumpsStand (a : Addr) (w : Word) (s : State) : PumpsStand s (s.hostWrite a w) := by
  have hand : ∀ e, PumpsStand s (s.writeHand e w) := fun e => by
    unfold State.writeHand
    split <;> exact rfl
  have entry : ∀ e o, PumpsStand s (s.writeEntryWord e o w) := fun e o => by
    unfold State.writeEntryWord
    split <;> exact rfl
  exact whenRunning_pumpsStand _ s (.ite rfl (.ite (hand _) (entry _ _)))

theorem snapshotRule_pumpsStand (o : WorkingCopy) (s : State) : PumpsStand s (snapshotRule o s).1 := by
  refine ite_pumpsStand (.refl s) (ite_pumpsStand (.refl s) (ite_pumpsStand (.refl s) ?_))
  dsimp only [reply]
  rw [State.writeWords_frame]
  exact rfl

/-! ## The time, level, tide and alarm units -/

theorem sendSecond_pumpsStand (old new : Clock) (s : State) : PumpsStand s (s.sendSecond old new) := by
  unfold State.sendSecond
  dsimp only
  split
  · split <;> exact rfl
  · split <;> exact rfl

theorem crystalFailure_pumpsStand (s : State) : PumpsStand s s.crystalFailure := by
  unfold State.crystalFailure
  split
  · split
    case h_3 =>
      dsimp only
      split <;> exact rfl
    all_goals exact rfl
  · split <;> exact rfl

theorem stepTimer_pumpsStand (t : TimerNo) (u : TickUnit) (s : State) : PumpsStand s (s.stepTimer t u) := by
  have told : ∀ (o : TimerOwner) (x : State), PumpsStand x (x.tellOwner o) := by
    intro o x
    cases o <;> exact rfl
  unfold State.stepTimer
  dsimp only
  split
  · split
    · exact .trans (t := s.setTimer t (s.timer t).expire) rfl (told _ _)
    · exact rfl
  · exact .refl s

theorem reloadInterval_pumpsStand (n : ScreenNo) (s : State) : PumpsStand s (s.reloadInterval n) := by
  unfold State.reloadInterval
  split
  · exact .refl s
  · exact .ite rfl (.refl s)

theorem setTimerRule_pumpsStand (o : WorkingCopy) (s : State) : PumpsStand s (setTimerRule o s).1 := by
  have rewritten : ∀ (t : TimerNo) (w : TimerOwner) (u : TickUnit) (preset : Nat) (start : Bool),
      PumpsStand s (rewriteTimer t w u preset start s).1 := fun _ _ _ _ _ => ite_pumpsStand (.refl s) rfl
  refine forSixteen_pumpsStand _ s _ fun t => ite_pumpsStand (.refl s) ?_
  split
  · exact .refl s
  · refine ite_pumpsStand (.refl s) (ite_pumpsStand rfl ?_)
    split
    · exact .refl s
    · unfold rewriteChecked
      split
      case h_2 => exact forScreen_pumpsStand _ s _ fun _ => rewritten _ _ _ _ _
      all_goals exact rewritten _ _ _ _ _

theorem recompute_pumpsStand (t : Tide) (s : State) : PumpsStand s (s.recompute t) := by
  rw [recompute_eq]
  exact rfl

theorem alarmEvent_pumpsStand (s : State) (unit : AlarmUnit) (f : Alarm → AlarmStep) : PumpsStand s (s.alarmEvent unit f) := by
  rw [alarmEvent_eq]
  exact rfl

theorem scanCompletion_pumpsStand (codes : Vector RawCode 16) (s : State) : PumpsStand s (s.scanCompletion codes) := by
  by_cases run : s.phase = .running
  · rw [scanCompletion_running s codes run]
    exact rfl
  · rw [State.scanCompletion, s.whenRunning_idle _ run]
    exact .refl s

theorem loadTideRule_pumpsStand (o : WorkingCopy) (s : State) : PumpsStand s (loadTideRule o s).1 := by
  refine ite_pumpsStand (.refl s) (ite_pumpsStand (.refl s) ?_)
  split
  · exact .refl s
  · exact rfl

theorem takeSwap_pumpsStand (s : State) : PumpsStand s s.takeSwap := by
  unfold State.takeSwap
  refine .ite (.refl s) (takeImmediate_pumpsStand s _ _ fun _ t => ite_pumpsStand (.refl t) ?_)
  exact (recompute_pumpsStand _ t).trans rfl

theorem setAlarmRule_pumpsStand (o : WorkingCopy) (s : State) : PumpsStand s (setAlarmRule o s).1 := by
  refine forSixteen_pumpsStand _ s _ fun i => ?_
  split
  · exact .refl s
  · refine ite_pumpsStand (.refl s) ?_
    dsimp only [reply]
    rw [sendActionChangeFrom_eq]
    exact rfl

/-! ## The screen and wash units -/

theorem washOrderEnded_pumpsStand (x : Screen) (r : OrderResult) (s : State) : PumpsStand s (washOrderEnded x r s) := by
  unfold washOrderEnded
  split
  · exact .refl s
  · exact (complete_dutyOnly _ _ _ _ _).pumpsStand

theorem sendChokeFrom_pumpsStand (old : Bool) (s : State) : PumpsStand s (s.sendChokeFrom old) := .ite (.refl s) rfl

theorem request_pumpsStand (n : ScreenNo) (c : Cause) (s : State) : PumpsStand s (s.request n c) := by
  rw [request_eq]
  exact .ite (.refl s) (.ite rfl (.ite rfl rfl))

theorem stallScreen_pumpsStand (n : ScreenNo) (s : State) : PumpsStand s (s.stallScreen n) := by
  rw [stallScreen_stalledAt]
  exact .trans (t := withScreen s n _ _) rfl ((washOrderEnded_pumpsStand _ _ _).trans rfl)

theorem countedEnd_pumpsStand (n : ScreenNo) (s : State) : PumpsStand s (s.countedEnd n) := by
  rw [countedEnd_eq]
  refine PumpsStand.trans ?_ (washOrderEnded_pumpsStand _ _ _)
  split <;> exact rfl

theorem turn_pumpsStand (n : ScreenNo) (s : State) : PumpsStand s (s.turn n) := by
  have counted : ∀ x : Screen, PumpsStand s ((s.setScreen n x).countedEnd n) := fun x =>
    .trans (t := s.setScreen n x) rfl (countedEnd_pumpsStand n _)
  unfold State.turn
  dsimp only
  split
  · exact rfl
  · exact .ite (.ite rfl (counted _)) rfl
  all_goals exact .refl s

theorem overload_pumpsStand (n : ScreenNo) (s : State) : PumpsStand s (s.overload n) :=
  .ite (stallScreen_pumpsStand n s) (.refl s)

theorem grantTo_pumpsStand (n : ScreenNo) (s : State) : PumpsStand s (s.grantTo n) :=
  .ite (.trans (t := s.setScreen n _) rfl (stallScreen_pumpsStand n _)) rfl

theorem cancelWash_pumpsStand (n : ScreenNo) (s : State) : PumpsStand s (s.cancelWash n) := by
  rw [cancelWash_eq]
  dsimp only
  split
  case h_5 | h_6 => exact .refl s
  all_goals exact .trans (t := withScreen s n _ _) rfl (washOrderEnded_pumpsStand _ _ _)

theorem differentialAt_pumpsStand (n : ScreenNo) (d : Differential) (s : State) : PumpsStand s (s.differentialAt n d) := by
  have flagged : ∀ (c : Bool) (x : Screen) (w : Wash),
      PumpsStand s (withScreen (if c then withFlag s .screen else s) n x w) := by
    intro c x w
    cases c <;> exact rfl
  rw [differentialAt_eq]
  exact .ite (.refl s) (.ite (flagged ..) (.ite (flagged ..) (.ite (flagged ..) (flagged ..))))

/-- A screen's field line, in every phase. -/
theorem line_pumpsStand (fitted old level : Bool) (store event : State → State) (s : State) (hs : PumpsStand s (store s))
    (he : ∀ t, PumpsStand t (event t)) : PumpsStand s (s.line fitted old level store event) := by
  refine .ite ?_ (.refl s)
  split
  · exact .refl s
  · exact .refl s
  · exact hs
  · exact .ite (hs.trans (he _)) hs

theorem washRule_pumpsStand (o : WorkingCopy) (s : State) : PumpsStand s (washRule o s) := by
  unfold washRule
  split
  · exact finish_pumpsStand o s _ (.refl s)
  · next n _ =>
    split
    · exact finish_pumpsStand o s _ (.refl s)
    · rw [acceptWash_eq]
      exact .trans (t := withScreen s n _ s.wash) rfl ((request_pumpsStand n .order _).trans (.ite rfl (.refl _)))

theorem holdScreenRule_pumpsStand (o : WorkingCopy) (s : State) : PumpsStand s (holdScreenRule o s).1 := by
  rw [holdScreenRule_eq]
  refine forScreen_pumpsStand _ s _ fun n => ?_
  have held : PumpsStand s (outOfService n (s.holdWash n)) := by
    rw [outOfService_holdWash]
    dsimp only
    split <;> exact rfl
  exact held.trans ((washOrderEnded_pumpsStand _ _ _).trans (sendChokeFrom_pumpsStand _ _))

theorem setScreenRule_pumpsStand (o : WorkingCopy) (s : State) : PumpsStand s (setScreenRule o s).1 := by
  refine forScreen_pumpsStand _ s _ fun n => ?_
  split
  · exact .refl s
  · exact ite_pumpsStand rfl (.refl s)

/-! ## The duty unit -/

/-- A change of the duty record, settled as an event. -/
theorem setDuty_dutyEvent_pumpsStand (s : State) (d before : Duty) : PumpsStand s ((s.setDuty d).dutyEvent before) :=
  ((setDuty_dutyOnly s d).trans (dutyEvent_dutyOnly _ before)).pumpsStand

theorem hearReport_pumpsStand (r : PumpReport) (s : State) : PumpsStand s (s.hearReport r) :=
  ((setDuty_dutyOnly s _).trans ((moveRules_dutyOnly _ r _).trans (dutyEvent_dutyOnly _ _))).pumpsStand

theorem cancelChange_pumpsStand (s : State) : PumpsStand s s.cancelChange := by
  unfold State.cancelChange
  split
  · exact ((askStop_dutyOnly s _).trans ((abandonChange_dutyOnly _ _ _ _ _).trans (dutyEvent_dutyOnly _ _))).pumpsStand
  · exact .refl s
  · exact .refl s

theorem rotate_pumpsStand (s : State) : PumpsStand s s.rotate :=
  .ite (.refl s) (.ite rfl (setDuty_dutyEvent_pumpsStand s _ _))

theorem changeRule_pumpsStand (o : WorkingCopy) (s : State) : PumpsStand s (changeRule o s) := by
  unfold changeRule
  split
  · exact finish_pumpsStand o s _ (.refl s)
  · split
    · exact finish_pumpsStand o s _ (.refl s)
    · exact ((askStart_dutyOnly s _).trans ((setDuty_dutyOnly _ _).trans (dutyEvent_dutyOnly _ _))).pumpsStand

theorem setRosterRule_pumpsStand (o : WorkingCopy) (s : State) : PumpsStand s (setRosterRule o s).1 := by
  refine ite_pumpsStand (.refl s) (ite_pumpsStand (.refl s) ?_)
  split
  · exact .refl s
  · exact ite_pumpsStand (.refl s) (ite_pumpsStand (.refl s) (setDuty_dutyEvent_pumpsStand s _ _))

/-! ## Every command of another unit -/

/-- The commands that can reach a pump's record: the pump unit's own and a second. -/
def isPumpEvent : Instr → Bool
  | .secondStep | .setPump | .holdPump | .releasePump | .resetPump | .wReport | .startRequest | .stopRequest | .proofEdge _
  | .proofDrop _ | .motorFaultEvent _ | .motorFaultClear _ | .proveWatchExpiry _ | .lossWatchExpiry _
  | .stoppingClockExpiry _ | .restartDelayEnd _ => true
  | _ => false

/-- The commands of the time, level, tide and alarm units leave the pump unit. -/
theorem exec_upstream_pumpsStand (c : Instr) (s : State) (hr : isReset c = false) (hp : isPumpEvent c = false)
    (h : isUpstream c = true) : ∃ t, exec c s = .next t ∧ PumpsStand s t := by
  have delivered : ∀ w : Wires, PumpsStand s { s with wires := w } := fun _ => rfl
  cases c
  case powerApplication | coldStartUpCompletion | supplyLoss | resetNFall | resetNRelease => cases hr
  case secondStep => cases hp
  case crystalConfirmed =>
    refine ⟨_, rfl, ?_⟩
    unfold State.crystalConfirmed
    split <;> exact rfl
  case crystalFailure => exact ⟨_, rfl, crystalFailure_pumpsStand s⟩
  case confirmPeriodRestart =>
    refine ⟨_, rfl, ?_⟩
    unfold State.confirmRestart
    split <;> exact rfl
  case setTime => exact ⟨_, rfl, takeImmediate_pumpsStand s _ _ fun _ t => ite_pumpsStand rfl (.refl t)⟩
  case setTimer => exact ⟨_, rfl, takeImmediate_pumpsStand s _ _ setTimerRule_pumpsStand⟩
  case stopTimer => exact ⟨_, rfl, takeImmediate_pumpsStand s _ _ fun _ t => forSixteen_pumpsStand _ t _ fun _ => rfl⟩
  case setChannel =>
    exact ⟨_, rfl, takeImmediate_pumpsStand s _ _ fun _ t =>
      forSixteen_pumpsStand _ t _ fun _ => ite_pumpsStand rfl (.refl t)⟩
  case setSea => exact ⟨_, rfl, takeImmediate_pumpsStand s _ _ fun _ t => ite_pumpsStand rfl (.refl t)⟩
  case loadTide => exact ⟨_, rfl, takeImmediate_pumpsStand s _ _ loadTideRule_pumpsStand⟩
  case swapTide => exact ⟨_, rfl, takeSwap_pumpsStand s⟩
  case setAlarm => exact ⟨_, rfl, takeImmediate_pumpsStand s _ _ setAlarmRule_pumpsStand⟩
  case ackAlarm => exact ⟨_, rfl, takeImmediate_pumpsStand s _ _ fun _ _ => rfl⟩
  case scanCompletion codes => exact ⟨_, rfl, scanCompletion_pumpsStand codes s⟩
  case unitTick | minuteEventLevel | timeSetEventLevel =>
    refine ⟨_, rfl, whenRunning_pumpsStand _ s ?_⟩
    split <;> exact rfl
  case timerExpiry =>
    refine ⟨_, rfl, whenRunning_pumpsStand _ s ?_⟩
    split
    · exact .refl s
    · exact (delivered _).trans (stepTimer_pumpsStand _ _ _)
  case intervalRestart =>
    refine ⟨_, rfl, whenRunning_pumpsStand _ s ?_⟩
    split
    · exact .refl s
    · exact (delivered _).trans (reloadInterval_pumpsStand _ _)
  case minuteEventTide | timeSetEventTide | suspectChangeEventTide =>
    refine ⟨_, rfl, whenRunning_pumpsStand _ s ?_⟩
    split
    · exact (delivered _).trans (recompute_pumpsStand _ _)
    · exact .refl s
  case minuteEventAlarm | timeSetEventAlarm | suspectChangeEventAlarm =>
    refine ⟨_, rfl, whenRunning_pumpsStand _ s ?_⟩
    split
    · exact (delivered _).trans (alarmEvent_pumpsStand _ _ _)
    · exact .refl s
  case editionChangeEvent | seaReport | rateReport =>
    refine ⟨_, rfl, whenRunning_pumpsStand _ s ?_⟩
    split
    · exact .refl s
    · exact (delivered _).trans (alarmEvent_pumpsStand _ _ _)
  all_goals cases h

/-- The commands of the port, the screens, the wash header and the duty unit leave the pump unit. -/
theorem exec_downstream_pumpsStand (c : Instr) (s : State) (hp : isPumpEvent c = false) (h : isUpstream c = false) :
    ∃ t, exec c s = .next t ∧ PumpsStand s t := by
  have delivered : ∀ w : Wires, PumpsStand s { s with wires := w } := fun _ => rfl
  cases c
  case powerApplication | coldStartUpCompletion | supplyLoss | resetNFall | resetNRelease | crystalConfirmed |
      crystalFailure | confirmPeriodRestart | unitTick | timerExpiry | intervalRestart | setTime | setTimer |
      stopTimer | setChannel | setSea | scanCompletion | minuteEventLevel | timeSetEventLevel | loadTide | swapTide |
      minuteEventTide | timeSetEventTide | suspectChangeEventTide | setAlarm | ackAlarm | minuteEventAlarm |
      timeSetEventAlarm | suspectChangeEventAlarm | editionChangeEvent | seaReport | rateReport => cases h
  case secondStep | setPump | holdPump | releasePump | resetPump | wReport | startRequest | stopRequest | proofEdge |
      proofDrop | motorFaultEvent | motorFaultClear | proveWatchExpiry | lossWatchExpiry | stoppingClockExpiry |
      restartDelayEnd => cases hp
  case arrival | withdrawal | giveBack | cancelRequest | handIllegal | entryWordWrite | bulkWrite =>
    exact ⟨_, rfl, hostWrite_pumpsStand _ _ s⟩
  case summaryWrite | enableWrite | readOnly => exact ⟨_, rfl, whenRunning_pumpsStand _ s rfl⟩
  case faultWrite => exact ⟨_, rfl, whenRunning_pumpsStand _ s (.ite rfl (.refl s))⟩
  case unknownKind => exact ⟨_, rfl, take_pumpsStand s _ _ fun o t => finish_pumpsStand o t _ (.refl t)⟩
  case describe => exact ⟨_, rfl, takeImmediate_pumpsStand s _ _ fun _ t => .refl t⟩
  case snapshot => exact ⟨_, rfl, takeImmediate_pumpsStand s _ _ snapshotRule_pumpsStand⟩
  case setScreen => exact ⟨_, rfl, takeImmediate_pumpsStand s _ _ setScreenRule_pumpsStand⟩
  case wash => exact ⟨_, rfl, take_pumpsStand s _ _ washRule_pumpsStand⟩
  case holdScreen => exact ⟨_, rfl, takeImmediate_pumpsStand s _ _ holdScreenRule_pumpsStand⟩
  case releaseScreen => exact ⟨_, rfl, takeImmediate_pumpsStand s _ _ fun _ t => forScreen_pumpsStand _ t _ fun _ => rfl⟩
  case resetScreen =>
    exact ⟨_, rfl, takeImmediate_pumpsStand s _ _ fun _ t =>
      forScreen_pumpsStand _ t _ fun _ => ite_pumpsStand (.refl t) rfl⟩
  case setWash =>
    exact ⟨_, rfl, takeImmediate_pumpsStand s _ _ fun _ t => ite_pumpsStand (.refl t) (ite_pumpsStand (.refl t) rfl)⟩
  case setDemand | setChoke =>
    exact ⟨_, rfl, takeImmediate_pumpsStand s _ _ fun _ t =>
      ite_pumpsStand (.refl t) (ite_pumpsStand (.refl t) (setDuty_dutyEvent_pumpsStand t _ _))⟩
  case setRoster => exact ⟨_, rfl, takeImmediate_pumpsStand s _ _ setRosterRule_pumpsStand⟩
  case change => exact ⟨_, rfl, take_pumpsStand s _ _ changeRule_pumpsStand⟩
  case lockDuty => exact ⟨_, rfl, takeImmediate_pumpsStand s _ _ fun _ _ => rfl⟩
  case turnEdge n level => exact ⟨_, rfl, line_pumpsStand _ _ _ _ _ s rfl (turn_pumpsStand n)⟩
  case overloadEvent n level => exact ⟨_, rfl, line_pumpsStand _ _ _ _ _ s rfl (overload_pumpsStand n)⟩
  case turnWatchExpiry n => exact ⟨_, rfl, whenRunning_pumpsStand _ s (.ite (stallScreen_pumpsStand n s) (.refl s))⟩
  case rundownExpiry => exact ⟨_, rfl, whenRunning_pumpsStand _ s (.ite (.ite rfl rfl) (.refl s))⟩
  case grant =>
    refine ⟨_, rfl, whenRunning_pumpsStand _ s (.ite ?_ (.refl s))⟩
    split
    · exact .refl s
    · next n _ rest _ =>
      exact .trans (t := s.setWash { s.wash with queue := rest, slots := s.wash.slots + 1 }) rfl (grantTo_pumpsStand n _)
  all_goals refine ⟨_, rfl, whenRunning_pumpsStand _ s ?_⟩
  case differentialReport =>
    split
    · exact .refl s
    · exact (delivered _).trans ((PumpsStand.foldl _ (fun t (m : ScreenNo × Differential) =>
        differentialAt_pumpsStand m.1 m.2 t) _ _).trans (sendChokeFrom_pumpsStand _ _))
  case hReport =>
    split
    · exact .refl s
    · exact .ite rfl rfl
  case wReportDuty | runningPumpReport => split <;> exact rfl
  case washRequest =>
    split
    · exact .refl s
    · exact .ite ((delivered _).trans (request_pumpsStand _ _ _)) (delivered _)
  case washCancel =>
    split
    · exact .refl s
    · exact .ite ((delivered _).trans (cancelWash_pumpsStand _ _)) (delivered _)
  case chokeChangeEvent | actionChangeEvent =>
    split
    · exact .refl s
    · exact (delivered _).trans (setDuty_dutyEvent_pumpsStand _ _ _)
  case pumpChangeReport =>
    split
    · exact .refl s
    · exact (delivered _).trans (hearReport_pumpsStand _ _)
  case changeCancel =>
    split
    · exact .refl s
    · exact .ite ((delivered _).trans (cancelChange_pumpsStand _)) (delivered _)
  case rotationExpiry =>
    split
    · exact .refl s
    · exact (delivered _).trans (rotate_pumpsStand _)

/-- Every command of another unit leaves the pump unit. -/
theorem exec_pumpsStand (c : Instr) (s : State) (hr : isReset c = false) (hp : isPumpEvent c = false) :
    ∃ t, exec c s = .next t ∧ PumpsStand s t := by
  cases h : isUpstream c with
  | true => exact exec_upstream_pumpsStand c s hr hp h
  | false => exact exec_downstream_pumpsStand c s hp h

end Sys2Proof
end


/-!
# Availability at every step

One pump in order is one whose mark is what its terms give and which is at its cold-reset values if it is not fitted (`PumpOk`).
Each event of the pump unit is followed through the one record that it writes; a W report, a second and a reset rewrite all.
-/

section
namespace Sys2Proof

open Sys2Proof.Machine

/-! ## One pump (R151, R154) -/

/-- A pump is available exactly when its terms hold, and keeps its cold-reset values if it is not fitted. -/
structure PumpOk (fitted : Bool) (w : Measure) (x : Pump) : Prop where
  available : x.available = x.canStart fitted w
  unfitted : fitted = false → x = Pump.cold

/-- `AvailabilityInv`, its two clauses about one pump in one. -/
theorem availabilityInv_iff (s : State) :
    AvailabilityInv s ↔ (∀ p, PumpOk (s.pumpFitted p) s.pumps.lastW (s.pump p)) ∧
      ((s.phase = .coldStart ∨ s.phase = .held) → s.pumps.lastW.quality ≠ .good) :=
  ⟨fun ⟨available, shallow, unfitted⟩ => ⟨fun p => ⟨available p, unfitted p⟩, shallow⟩,
    fun ⟨pumps, shallow⟩ => ⟨fun p => (pumps p).available, shallow, fun p => (pumps p).unfitted⟩⟩

section one
variable {fitted : Bool} {w : Measure} {x y : Pump}

/-- A pump that has left STOPPED cannot be started. -/
theorem canStart_moving (h : x.state ≠ .stopped) : x.canStart fitted w = false := by simp [Pump.canStart, h]

/-- No pump can be started without a GOOD W. -/
theorem canStart_shallow (h : w.quality ≠ .good) : x.canStart fitted w = false := by
  simp [Pump.canStart, Pump.deepEnough, h]

/-- Re-evaluation puts a fitted pump in order, whatever its record. -/
theorem PumpOk.reevaluated (cold : fitted = false → x = Pump.cold) :
    PumpOk fitted w { x with available := x.canStart fitted w } := by
  refine ⟨rfl, fun unfitted => ?_⟩
  rw [cold unfitted, unfitted]
  rfl

/-- Another record of a fitted pump with the same mark and the same terms. -/
theorem PumpOk.same (h : PumpOk fitted w x) (hf : fitted = true) (mark : y.available = x.available)
    (terms : y.canStart fitted w = x.canStart fitted w) : PumpOk fitted w y :=
  ⟨by rw [mark, terms, h.available], fun unfitted => Bool.noConfusion (hf.symm.trans unfitted)⟩

/-- A pump that is not at rest is fitted. -/
theorem PumpOk.fitted_of_moving (h : PumpOk fitted w x) (moving : x.state ≠ .stopped) : fitted = true := by
  by_contra unfitted
  rw [h.unfitted (Bool.eq_false_of_not_eq_true unfitted)] at moving
  exact moving rfl

/-- A second leaves the terms of availability: the remaining of a restart delay goes from above 1 alone, the last decrement being
the delay's end (R161, log 8). -/
theorem second_canStart (x : Pump) : x.second.canStart fitted w = x.canStart fitted w := by
  have elapsed : ((if x.state = .stopped ∧ 1 < x.delayRemaining then x.delayRemaining - 1 else x.delayRemaining) == 0) =
      (x.delayRemaining == 0) := by
    rw [Bool.eq_iff_iff, beq_iff_eq, beq_iff_eq]
    split <;> omega
  rw [pump_second_eq]
  unfold Pump.canStart Pump.deepEnough
  dsimp only
  rw [elapsed]

theorem PumpOk.second (h : PumpOk fitted w x) : PumpOk fitted w x.second := by
  have mark : x.second.available = x.available := by rw [pump_second_eq]
  refine ⟨by rw [mark, second_canStart, h.available], fun unfitted => ?_⟩
  rw [h.unfitted unfitted]
  rfl

end one

/-! ## Records rewritten -/

section records
variable {s t : State} {p : PumpNo} {x y : Pump}

/-- The pump unit stands, and the part does not come to a phase in which no W is GOOD. -/
theorem AvailabilityInv.of_pumps (h : AvailabilityInv s) (pumps : t.pumps = s.pumps) (fitted : t.fittedPumps = s.fittedPumps)
    (phase : t.phase = s.phase ∨ t.phase = .running ∨ t.phase = .unpowered) : AvailabilityInv t := by
  obtain ⟨ok, shallow⟩ := (availabilityInv_iff s).mp h
  refine (availabilityInv_iff t).mpr ⟨fun p => ?_, fun idle => ?_⟩
  · unfold State.pumpFitted State.pump
    rw [pumps, fitted]
    exact ok p
  · rw [pumps]
    refine shallow ?_
    rcases phase with phase | phase | phase <;> rw [phase] at idle
    · exact idle
    · exact idle.elim nofun nofun
    · exact idle.elim nofun nofun

theorem SameFrame.availabilityInv (frame : SameFrame s t) (stand : PumpsStand s t) (h : AvailabilityInv s) :
    AvailabilityInv t := h.of_pumps stand frame.fittedPumps (Or.inl frame.phase)

theorem DutyOnly.availabilityInv (d : DutyOnly s t) (h : AvailabilityInv s) : AvailabilityInv t :=
  d.sameFrame.availabilityInv d.pumpsStand h

/-- Every record rewritten in order. -/
theorem AvailabilityInv.tab (h : AvailabilityInv s) {f : PumpNo → Pump}
    (ok : ∀ p, PumpOk (s.pumpFitted p) s.pumps.lastW (s.pump p) → PumpOk (s.pumpFitted p) s.pumps.lastW (f p)) :
    AvailabilityInv { s with pumps := { s.pumps with records := tab f } } := by
  obtain ⟨old, shallow⟩ := (availabilityInv_iff s).mp h
  refine (availabilityInv_iff _).mpr ⟨fun p => ?_, shallow⟩
  unfold State.pump
  rw [sel_tab]
  exact ok p (old p)

theorem AvailabilityInv.pump (h : AvailabilityInv s) (p : PumpNo) : PumpOk (s.pumpFitted p) s.pumps.lastW (s.pump p) :=
  ((availabilityInv_iff s).mp h).1 p

theorem AvailabilityInv.setPump (h : AvailabilityInv s) (ok : PumpOk (s.pumpFitted p) s.pumps.lastW y) :
    AvailabilityInv (s.setPump p y) := by
  obtain ⟨old, shallow⟩ := (availabilityInv_iff s).mp h
  refine (availabilityInv_iff _).mpr ⟨fun q => ?_, shallow⟩
  rw [State.pump_setPump]
  split
  · next hq =>
    rw [hq]
    exact ok
  · exact old q

/-- An event at one pump re-evaluates it (R154). -/
theorem pumpBecomes_availability (h : AvailabilityInv s) (cold : s.pumpFitted p = false → x = Pump.cold) :
    AvailabilityInv (pumpBecomes s p x) :=
  (h.setPump (PumpOk.reevaluated cold)).of_pumps rfl rfl (Or.inl rfl)

/-- So does one that has written the record before. -/
theorem pumpBecomes_setPump_availability (h : AvailabilityInv s) (hf : s.pumpFitted p = true) :
    AvailabilityInv (pumpBecomes (s.setPump p x) p y) := by
  refine (pumpBecomes_availability (x := y) h fun unfitted => Bool.noConfusion (hf.symm.trans unfitted)).of_pumps ?_ rfl
    (Or.inl rfl)
  exact congrArg (fun v => ({ s.pumps with records := v } : PumpUnit)) (upd_upd _ p x _)

theorem pumpEvent_availability (f : Pump → Pump) (h : AvailabilityInv s) (hf : s.pumpFitted p = true) :
    AvailabilityInv (s.pumpEvent p f) := by
  rw [pumpEvent_eq]
  exact pumpBecomes_availability h fun unfitted => Bool.noConfusion (hf.symm.trans unfitted)

theorem trip_availability (cause : StopCause) (h : AvailabilityInv s) (hf : s.pumpFitted p = true) :
    AvailabilityInv (s.trip cause p) := (setFlag_dutyOnly _ _).availabilityInv (pumpEvent_availability _ h hf)

/-- A pump that is not at rest is fitted (R151). -/
theorem AvailabilityInv.fitted (h : AvailabilityInv s) (moving : (s.pump p).state ≠ .stopped) : s.pumpFitted p = true :=
  (h.pump p).fitted_of_moving moving

/-- A record of a fitted pump rewritten beside its terms. -/
theorem AvailabilityInv.rewrite (h : AvailabilityInv s) (hf : s.pumpFitted p = true)
    (mark : y.available = (s.pump p).available) (terms : y.canStart true s.pumps.lastW = (s.pump p).canStart true s.pumps.lastW) :
    AvailabilityInv (s.setPump p y) := by
  refine h.setPump ((h.pump p).same hf mark ?_)
  rw [hf]
  exact terms

/-- While no W is GOOD a fitted pump's terms may change and its mark stays. -/
theorem AvailabilityInv.rewrite_held (h : AvailabilityInv s) (held : s.phase = .held) (hf : s.pumpFitted p = true)
    (mark : y.available = (s.pump p).available) : AvailabilityInv (s.setPump p y) := by
  obtain ⟨-, shallow⟩ := (availabilityInv_iff s).mp h
  have shallow := shallow (Or.inr held)
  exact h.rewrite hf mark ((canStart_shallow shallow).trans (canStart_shallow shallow).symm)

end records

/-! ## Field lines and the restart delay (R153, R157 to R162) -/

section events
variable {s : State} {p : PumpNo}

theorem proof_availability (h : AvailabilityInv s) (hf : s.pumpFitted p = true) : AvailabilityInv (s.proof p) := by
  unfold State.proof
  split
  · exact pumpEvent_availability _ h hf
  · exact h.rewrite hf rfl rfl
  all_goals exact h

theorem unproof_availability (h : AvailabilityInv s) (hf : s.pumpFitted p = true) : AvailabilityInv (s.unproof p) := by
  unfold State.unproof
  split
  · exact h.rewrite hf rfl rfl
  all_goals exact h

/-- A motor-fault event whose level has been kept: a TRIPPED pump alone is not re-evaluated, and it is not available anyhow. -/
theorem motorFault_availability (h : AvailabilityInv s) (hf : s.pumpFitted p = true) :
    AvailabilityInv ((s.setPump p { s.pump p with motorFault := true }).motorFault p) := by
  have flagged : ∀ t : State, AvailabilityInv t → AvailabilityInv (withFlag t .pump) := fun t ht =>
    (setFlag_dutyOnly t .pump).availabilityInv ht
  have faulty := State.pump_setPump_same s p { s.pump p with motorFault := true }
  cases hs : (s.pump p).state with
  | starting | running | stopping =>
    rw [motorFault_trips (by rw [faulty]; simp [hs])]
    exact flagged _ (pumpBecomes_setPump_availability h hf)
  | stopped =>
    rw [motorFault_stopped (by rw [faulty]; exact hs)]
    exact pumpBecomes_setPump_availability h hf
  | tripped =>
    have moving : (s.pump p).state ≠ .stopped := by rw [hs]; nofun
    rw [motorFault_tripped (by rw [faulty]; exact hs)]
    have movingFaulty : ({ s.pump p with motorFault := true } : Pump).state ≠ .stopped := moving
    exact h.rewrite hf rfl ((canStart_moving movingFaulty).trans (canStart_moving moving).symm)

/-- A pump's field line, in every phase. -/
theorem pumpLine_availability {changes : Bool} {store event : State → State} (h : AvailabilityInv s)
    (hold : s.phase = .held → s.pumpFitted p = true → AvailabilityInv (store s))
    (run : s.pumpFitted p = true → AvailabilityInv (event (store s))) :
    AvailabilityInv (s.pumpLine p changes store event) := by
  unfold State.pumpLine
  split
  · next read =>
    obtain ⟨hf, -⟩ := Bool.and_eq_true_iff.mp read
    split
    · exact h
    · exact h
    · next held => exact hold held hf
    · exact run hf
  · exact h

theorem restartDelayEnd_availability (h : AvailabilityInv s) : AvailabilityInv (s.restartDelayEnd p) := by
  cases due : s.delayEnds p with
  | false =>
    rw [restartDelayEnd_idle s p due]
    exact h
  | true =>
    obtain ⟨hf, -⟩ := (delayEnds_iff s p).mp due
    cases hp : s.phase with
    | unpowered | coldStart =>
      rw [restartDelayEnd_unread (by simp [hp])]
      exact h
    | held =>
      rw [restartDelayEnd_held hp due]
      exact h.rewrite_held hp hf rfl
    | running =>
      rw [restartDelayEnd_running hp due]
      exact pumpBecomes_availability h fun unfitted => Bool.noConfusion (hf.symm.trans unfitted)

/-! ## Requests and W reports (R156, R160, R164) -/

theorem start_availability (h : AvailabilityInv s) : AvailabilityInv (s.start p) := by
  unfold State.start
  split
  · next hf =>
    split
    · exact pumpEvent_availability _ h hf
    · exact h.of_pumps rfl rfl (Or.inl rfl)
  · exact h

/-- A stop leaves a pump that is not fitted as it stands, at rest (R160). -/
theorem stop_availability (h : AvailabilityInv s) : AvailabilityInv (s.pumpEvent p (Pump.stopped .duty)) := by
  rw [pumpEvent_eq]
  refine pumpBecomes_availability h fun unfitted => ?_
  rw [(h.pump p).unfitted unfitted]
  rfl

theorem heardPumps_availability (w : Measure) (h : AvailabilityInv s) (run : s.phase = .running) :
    AvailabilityInv { s with pumps := heardPumps s w } := by
  refine (availabilityInv_iff _).mpr ⟨fun q => ?_, fun idle => ?_⟩
  · have record : PumpOk (s.pumpFitted q) w (sel (heardPumps s w).records q) := by
      cases hf : s.pumpFitted q with
      | true =>
        rw [heardPumps_fitted hf]
        exact PumpOk.reevaluated nofun
      | false =>
        rw [heardPumps_unfitted hf, (h.pump q).unfitted hf]
        exact ⟨rfl, fun _ => rfl⟩
    exact record
  · rcases idle with idle | idle <;> exact nomatch run.symm.trans idle

theorem wReport_availability (h : AvailabilityInv s) : AvailabilityInv s.wReport := by
  by_cases run : s.phase = .running
  · cases hw : s.wires.wToPump with
    | nil =>
      unfold State.wReport
      rw [s.whenRunning_running _ run, hw]
      exact h
    | cons w rest =>
      rw [wReport_head run hw]
      exact (heardPumps_availability w h run).of_pumps rfl rfl (Or.inl rfl)
  · rw [State.wReport, s.whenRunning_idle _ run]
    exact h

/-- An event that a running part alone handles. -/
theorem whenRunning_availability {f : State → State} (h : AvailabilityInv s) (hf : AvailabilityInv (f s)) :
    AvailabilityInv (s.whenRunning f) := by
  unfold State.whenRunning
  split
  · exact hf
  all_goals exact h

/-! ## Orders about a pump (R165 to R168) -/

theorem takeImmediate_availability {kind : OrderKind} {rule : WorkingCopy → State → Reply} (h : AvailabilityInv s)
    (keeps : ∀ o t, AvailabilityInv t → AvailabilityInv (rule o t).1) : AvailabilityInv (s.takeImmediate kind rule) := by
  unfold State.takeImmediate
  rcases s.take_cases (some kind) (fun o s => finish o (rule o s)) with ht | ⟨e, rest, -, -, -, ht⟩ <;> rw [ht]
  · exact h
  · exact (complete_dutyOnly _ _ _ _ _).availabilityInv (keeps _ (takenState s e rest) (h.of_pumps rfl rfl (Or.inl rfl)))

theorem forPump_availability {word : Word} {k : PumpNo → Reply} (h : AvailabilityInv s)
    (hk : ∀ p, s.pumpFitted p = true → AvailabilityInv (k p).1) : AvailabilityInv (forPump word s k).1 := by
  rcases forPump_cases word s k with cases | cases | ⟨p, hf, cases⟩ <;> rw [cases]
  · exact h
  · exact h
  · exact hk p hf

/-- An order about a pump that answers with an event of that pump. -/
theorem pumpReply_availability (answers : List Word) (f : Pump → Pump) (h : AvailabilityInv s) (hf : s.pumpFitted p = true) :
    AvailabilityInv (reply answers (s.pumpEvent p f)).1 := pumpEvent_availability f h hf

/-! ## A second (R161, R171) -/

theorem secondAtPumps_availability (h : AvailabilityInv s) : AvailabilityInv s.secondAtPumps :=
  h.tab fun _ ok => ok.second

theorem secondStep_availability (h : AvailabilityInv s) : AvailabilityInv s.secondStep := by
  have stepped : AvailabilityInv s.stepClock := h.of_pumps rfl rfl (Or.inl rfl)
  unfold State.secondStep
  split
  · exact h
  · exact stepped
  · exact secondAtPumps_availability stepped
  · exact (sendSecond_quiet _ _ _).availabilityInv (sendSecond_pumpsStand _ _ _)
      ((secondAtPumps_availability stepped).of_pumps rfl rfl (Or.inl rfl))

/-! ## Power and RESET_N (R170, R171) -/

theorem powerOn_availability (a b : BitVec 3) (s : State) : AvailabilityInv (s.powerOn a b) := by
  have cold : ∀ p, (s.powerOn a b).pump p = Pump.cold := fun p => sel_tab _ p
  have shallow : (s.powerOn a b).pumps.lastW.quality ≠ .good := (by decide : Quality.unconfigured ≠ .good)
  refine (availabilityInv_iff _).mpr ⟨fun p => ?_, fun _ => shallow⟩
  rw [cold]
  exact ⟨(canStart_shallow shallow).symm, fun _ => rfl⟩

theorem hold_availability (cold : ∀ p, s.pumpFitted p = false → s.pump p = Pump.cold) : AvailabilityInv s.hold := by
  have shallow : s.hold.pumps.lastW.quality ≠ .good := (by decide : Quality.filling ≠ .good)
  refine (availabilityInv_iff _).mpr ⟨fun p => ?_, fun _ => shallow⟩
  have fitted : s.hold.pumpFitted p = s.pumpFitted p := rfl
  rw [hold_pump, fitted]
  cases hf : s.pumpFitted p with
  | true => exact ⟨(canStart_shallow shallow).symm, nofun⟩
  | false =>
    rw [if_neg Bool.false_ne_true, cold p hf]
    exact ⟨(canStart_shallow shallow).symm, fun _ => rfl⟩

/-- The restart delays begin while no W is GOOD (R170). -/
theorem delaysBegin_availability (h : AvailabilityInv s) (start : s.phase = .coldStart) : AvailabilityInv s.delaysBegin := by
  obtain ⟨-, shallow⟩ := (availabilityInv_iff s).mp h
  have shallow := shallow (Or.inl start)
  refine h.tab fun p ok => ?_
  split
  · next hf => exact ok.same hf rfl ((canStart_shallow shallow).trans (canStart_shallow shallow).symm)
  · exact ok

theorem startUp_availability (h : AvailabilityInv s) : AvailabilityInv s.startUp := by
  unfold State.startUp
  split
  · next start =>
    have begun := delaysBegin_availability h start
    obtain ⟨-, -, cold⟩ := id begun
    split
    · exact hold_availability cold
    · exact begun.of_pumps rfl rfl (Or.inr (Or.inl rfl))
  all_goals exact h

theorem resetFall_availability (h : AvailabilityInv s) : AvailabilityInv s.resetFall := by
  have low : AvailabilityInv { s with resetLow := true } := h.of_pumps rfl rfl (Or.inl rfl)
  obtain ⟨-, -, cold⟩ := id low
  unfold State.resetFall
  split
  case h_3 => exact hold_availability cold
  case h_4 => exact h
  all_goals exact low

theorem resetRelease_availability (h : AvailabilityInv s) : AvailabilityInv s.resetRelease := by
  have released : ∀ u : State, AvailabilityInv u → AvailabilityInv (unitsReleased u) := fun u hu => by
    have pumps : AvailabilityInv { u with pumps := releasedPumps u } := hu.tab fun p ok => by
      split
      · exact PumpOk.reevaluated ok.unfitted
      · exact ok
    exact pumps.of_pumps rfl rfl (Or.inl rfl)
  by_cases hp : s.phase = .held
  · have swept : AvailabilityInv (sweptPart s) := by
      rw [sweptPart_frame]
      exact h.of_pumps rfl rfl (Or.inr (Or.inl rfl))
    rw [resetRelease_held s hp]
    exact (dutyEvent_dutyOnly _ _).availabilityInv (released _ swept)
  · rw [resetRelease_idle s hp]
    exact h.of_pumps rfl rfl (Or.inl rfl)

end events

/-! ## Every command -/

/-- Power and RESET_N keep availability. -/
theorem reset_keepsAvailability (c : Instr) (s : State) (hc : isReset c = true) (h : AvailabilityInv s) :
    ∃ t, exec c s = .next t ∧ AvailabilityInv t := by
  cases c
  case powerApplication a b => exact ⟨_, rfl, powerOn_availability a b s⟩
  case coldStartUpCompletion => exact ⟨_, rfl, startUp_availability h⟩
  case supplyLoss => exact ⟨_, rfl, h.of_pumps rfl rfl (Or.inr (Or.inr rfl))⟩
  case resetNFall => exact ⟨_, rfl, resetFall_availability h⟩
  case resetNRelease => exact ⟨_, rfl, resetRelease_availability h⟩
  all_goals cases hc

/-- The pump unit's own events and a second keep availability. -/
theorem pumpEvents_keepAvailability (c : Instr) (s : State) (hc : isPumpEvent c = true) (h : AvailabilityInv s) :
    ∃ t, exec c s = .next t ∧ AvailabilityInv t := by
  have delivered : ∀ w : Wires, AvailabilityInv { s with wires := w } := fun w => h.of_pumps rfl rfl (Or.inl rfl)
  cases c
  case secondStep => exact ⟨_, rfl, secondStep_availability h⟩
  case wReport => exact ⟨_, rfl, wReport_availability h⟩
  case startRequest =>
    refine ⟨_, rfl, whenRunning_availability h ?_⟩
    split
    · exact start_availability (delivered _)
    · exact h
  case stopRequest =>
    refine ⟨_, rfl, whenRunning_availability h ?_⟩
    split
    · exact stop_availability (delivered _)
    · exact h
  case proofEdge p =>
    have stored := fun hf => h.rewrite (y := { s.pump p with proof := true }) hf rfl rfl
    exact ⟨_, rfl, pumpLine_availability h (fun _ => stored) fun hf => proof_availability (stored hf) hf⟩
  case proofDrop p =>
    have stored := fun hf => h.rewrite (y := { s.pump p with proof := false }) hf rfl rfl
    exact ⟨_, rfl, pumpLine_availability h (fun _ => stored) fun hf => unproof_availability (stored hf) hf⟩
  case motorFaultEvent p =>
    exact ⟨_, rfl, pumpLine_availability h (fun held hf => h.rewrite_held held hf rfl) (motorFault_availability h)⟩
  case motorFaultClear p =>
    refine ⟨_, rfl, pumpLine_availability h (fun held hf => h.rewrite_held held hf rfl) fun hf => ?_⟩
    rw [pumpEvent_eq]
    exact pumpBecomes_setPump_availability h hf
  case proveWatchExpiry p | lossWatchExpiry p =>
    refine ⟨_, rfl, whenRunning_availability h ?_⟩
    split
    · next due => exact trip_availability _ h (h.fitted fun rest => by simp [rest] at due)
    · exact h
  case stoppingClockExpiry p =>
    refine ⟨_, rfl, whenRunning_availability h ?_⟩
    split
    · next due => exact pumpEvent_availability _ h (h.fitted fun rest => by simp [rest] at due)
    · exact h
  case restartDelayEnd => exact ⟨_, rfl, restartDelayEnd_availability h⟩
  case holdPump | releasePump =>
    exact ⟨_, rfl, takeImmediate_availability h fun _ _ ht =>
      forPump_availability ht fun _ hf => pumpReply_availability _ _ ht hf⟩
  case resetPump =>
    refine ⟨_, rfl, takeImmediate_availability h fun _ _ ht => forPump_availability ht fun _ hf => ?_⟩
    split
    · exact ht
    · exact pumpReply_availability _ _ ht hf
  case setPump =>
    refine ⟨_, rfl, takeImmediate_availability h fun _ _ ht => forPump_availability ht fun _ hf => ?_⟩
    split
    · exact pumpReply_availability _ _ ht hf
    · exact ht
  all_goals cases hc

/-- Every command keeps availability. -/
theorem exec_keepsAvailability (c : Instr) (s : State) (h : AvailabilityInv s) :
    ∃ t, exec c s = .next t ∧ AvailabilityInv t := by
  cases hr : isReset c with
  | true => exact reset_keepsAvailability c s hr h
  | false =>
    cases hp : isPumpEvent c with
    | true => exact pumpEvents_keepAvailability c s hp h
    | false =>
      obtain ⟨t, exec, stand⟩ := exec_pumpsStand c s hr hp
      obtain ⟨u, exec', passes⟩ := exec_passes c s hr
      cases exec.symm.trans exec'
      exact ⟨t, exec, passes.frame.availabilityInv stand h⟩

end Sys2Proof

open Sys2Proof Sys2Proof.Machine

/-- Settles O9: a source cycle and the commands of the other units leave the pump unit, and each event of it re-evaluates what it
changes. -/
theorem availabilityInvKept : Obligations.AvailabilityInvKept := by
  intro s t h hs
  unfold step at hs
  split at hs
  · cases hs
    have stand : PumpsStand s s.sourceCycle := by
      unfold State.sourceCycle
      split <;> exact rfl
    exact (sourceCycle_quiet s).availabilityInv stand h
  · next c rest _ =>
    obtain ⟨u, exec, inv⟩ := exec_keepsAvailability c { s with pending := rest } (h.of_pumps rfl rfl (Or.inl rfl))
    cases exec.symm.trans hs
    exact inv

end

/-!
# The roster within an event of the duty unit

What each operation of the duty unit does to the roster, the saved roster and the terms of the running limit
(`KeepsRoster`). The relation composes, so that each operation is followed once; steps 3 to 5 of R177 then compute the limit
of its terms.
-/

section
namespace Sys2Proof

open Sys2Proof.Machine

/-- The roster and the saved roster are in order (R172), the latter standing with a CHANGE of origin ORDER: what `RosterInv`
asks for besides the running limit. -/
structure RosterHeld (s : State) : Prop where
  roster : IsRoster s s.duty.roster
  saved : ∀ r, s.duty.savedRoster = some r → IsRoster s r
  ordered : s.duty.savedRoster.isSome = Move.isOrdered s.duty.move

theorem rosterInv_iff (s : State) : RosterInv s ↔ RosterHeld s ∧ s.duty.limit = runningLimit s.duty :=
  ⟨fun ⟨roster, saved, ordered, limit⟩ => ⟨⟨roster, saved, ordered⟩, limit⟩,
    fun ⟨⟨roster, saved, ordered⟩, limit⟩ => ⟨roster, saved, ordered, limit⟩⟩

theorem RosterInv.held {s : State} (h : RosterInv s) : RosterHeld s := ((rosterInv_iff s).mp h).1

/-- Which pumps a roster holds depends on the number of fitted pumps alone. -/
theorem IsRoster.of_fitted {s t : State} {r : List PumpNo} (h : IsRoster s r) (hf : t.fittedPumps = s.fittedPumps) :
    IsRoster t r := by
  obtain ⟨once, fitted⟩ := h
  refine ⟨once, fun p => ?_⟩
  unfold State.pumpFitted
  rw [hf]
  exact fitted p

/-- A roster in another order is a roster. -/
theorem IsRoster.of_perm {s : State} {r r' : List PumpNo} (h : IsRoster s r) (hp : r'.Perm r) : IsRoster s r' :=
  ⟨hp.nodup_iff.mpr h.1, fun p => hp.mem_iff.trans (h.2 p)⟩

theorem rotated_perm (r : List PumpNo) : (rotated r).Perm r := by
  cases r with
  | nil => exact .refl _
  | cons p rest => exact List.perm_append_singleton p rest

/-- A new roster beside no saved one, with no CHANGE of origin ORDER. -/
theorem RosterHeld.of_roster {t : State} (roster : IsRoster t t.duty.roster) (saved : t.duty.savedRoster = none)
    (ordered : Move.isOrdered t.duty.move = false) : RosterHeld t := by
  refine ⟨roster, fun r hr => ?_, ?_⟩
  · cases saved.symm.trans hr
  · rw [saved, ordered]
    rfl

/-- While no CHANGE of origin ORDER is in flight, no roster is saved. -/
theorem RosterHeld.saved_none {s : State} (h : RosterHeld s) (hm : Move.isOrdered s.duty.move = false) :
    s.duty.savedRoster = none := by
  have tied := h.ordered
  rw [hm] at tied
  simpa using tied

/-- The roster rotated while no CHANGE of origin ORDER is in flight. -/
theorem RosterHeld.rotate {s t : State} (h : RosterHeld s) (hf : t.fittedPumps = s.fittedPumps)
    (roster : t.duty.roster = rotated s.duty.roster) (saved : t.duty.savedRoster = s.duty.savedRoster)
    (move : t.duty.move = s.duty.move) : RosterHeld t := by
  refine ⟨?_, fun r hr => ?_, ?_⟩
  · rw [roster]
    exact (h.roster.of_perm (rotated_perm _)).of_fitted hf
  · exact (h.saved r (saved.symm.trans hr)).of_fitted hf
  · rw [saved, move]
    exact h.ordered

/-! ## What keeps the roster -/

/-- What the running limit is made of (R174), and the limit itself. -/
def limitTerms (d : Duty) : Nat × Nat × Nat × Bool × Option Nat :=
  (d.limit, d.demand, d.chokeLimit, d.chokeCopy, d.floorCopy)

/-- The running limit and its terms stand, and so do the rosters that were in order. -/
structure KeepsRoster (s t : State) : Prop where
  terms : limitTerms t.duty = limitTerms s.duty
  held : RosterHeld s → RosterHeld t

theorem KeepsRoster.refl (s : State) : KeepsRoster s s := ⟨rfl, id⟩

theorem KeepsRoster.trans {s t u : State} (h : KeepsRoster s t) (h' : KeepsRoster t u) : KeepsRoster s u :=
  ⟨h'.terms.trans h.terms, h'.held ∘ h.held⟩

theorem KeepsRoster.limit {s t : State} (h : KeepsRoster s t) : t.duty.limit = s.duty.limit := congrArg Prod.fst h.terms

/-- The running limit is what its terms give. -/
theorem runningLimit_congr {d d' : Duty} (h : limitTerms d' = limitTerms d) : runningLimit d' = runningLimit d := by
  obtain ⟨-, demand, choke, copy, floor⟩ : _ ∧ _ ∧ _ ∧ _ ∧ _ := by simpa only [limitTerms, Prod.mk.injEq] using h
  unfold runningLimit
  rw [demand, choke, copy, floor]

theorem KeepsRoster.inv {s t : State} (h : KeepsRoster s t) (hs : RosterInv s) : RosterInv t := by
  obtain ⟨held, limit⟩ := (rosterInv_iff s).mp hs
  exact (rosterInv_iff t).mpr ⟨h.held held, h.limit.trans (limit.trans (runningLimit_congr h.terms).symm)⟩

/-- An operation that leaves both rosters and whether a CHANGE of origin ORDER is in flight. -/
theorem KeepsRoster.of_same {s t : State} (hf : t.fittedPumps = s.fittedPumps)
    (terms : limitTerms t.duty = limitTerms s.duty) (roster : t.duty.roster = s.duty.roster)
    (saved : t.duty.savedRoster = s.duty.savedRoster) (ordered : Move.isOrdered t.duty.move = Move.isOrdered s.duty.move) :
    KeepsRoster s t := by
  refine ⟨terms, fun h => ⟨?_, fun r hr => ?_, ?_⟩⟩
  · rw [roster]
    exact h.roster.of_fitted hf
  · exact (h.saved r (saved.symm.trans hr)).of_fitted hf
  · rw [saved, ordered]
    exact h.ordered

/-- An operation that leaves the duty record and the number of fitted pumps. -/
theorem KeepsRoster.of_duty {s t : State} (hf : t.fittedPumps = s.fittedPumps) (hd : t.duty = s.duty) : KeepsRoster s t := by
  refine .of_same hf ?_ ?_ ?_ ?_ <;> rw [hd]

/-! ## The operations of the duty unit -/

theorem askStop_keepsRoster (s : State) (p : PumpNo) : KeepsRoster s (s.askStop p) := .of_same rfl rfl rfl rfl rfl

/-- One move not of origin ORDER for another. -/
theorem setMove_keepsRoster (s : State) (m : Move) (h : Move.isOrdered s.duty.move = false) (h' : Move.isOrdered m = false) :
    KeepsRoster s (s.setMove m) := .of_same rfl rfl rfl rfl (h'.trans h.symm)

theorem changeOrderEnded_keepsRoster (s : State) (r : OrderResult) (i o : PumpNo) :
    KeepsRoster s (changeOrderEnded r i o s) := by
  unfold changeOrderEnded
  split
  · exact .refl s
  · refine .of_same ?_ ?_ ?_ ?_ ?_ <;> simp [limitTerms]

/-- A CHANGE ended with the roster restored, whatever its origin (R187). -/
theorem restoredWith_keepsRoster (s : State) (m : Move) (h : Move.isOrdered m = false) :
    KeepsRoster s { s with duty := restoredWith m s.duty } := by
  refine ⟨rfl, fun held => .of_roster ?_ rfl h⟩
  show IsRoster s (s.duty.savedRoster.getD s.duty.roster)
  cases hs : s.duty.savedRoster with
  | none => exact held.roster
  | some r => exact held.saved r hs

theorem abandonChange_keepsRoster (s : State) (m : Move) (r : OrderResult) (i o : PumpNo) (h : Move.isOrdered m = false) :
    KeepsRoster s (s.abandonChange m r i o) := by
  rw [abandonChange_eq]
  exact (restoredWith_keepsRoster s m h).trans (changeOrderEnded_keepsRoster _ r i o)

theorem setFlag_keepsRoster (s : State) (f : Flag) : KeepsRoster s (s.setFlag f) := .of_duty rfl rfl

/-- A CHANGE ended OK keeps the roster of its take and drops the saved one (R184). -/
theorem changeDone_keepsRoster (s : State) (i o : PumpNo) : KeepsRoster s (s.changeDone i o) := by
  have dropped : KeepsRoster (s.askStop o)
      ((s.askStop o).setDuty { (s.askStop o).duty with move := .none, savedRoster := none }) :=
    ⟨rfl, fun held => .of_roster held.roster rfl rfl⟩
  exact (askStop_keepsRoster s o).trans (dropped.trans (changeOrderEnded_keepsRoster _ .ok i o))

theorem endMove_keepsRoster (s : State) : KeepsRoster s s.endMove := by
  unfold State.endMove
  split
  · exact .refl s
  · next p hm =>
    have started : Move.isOrdered (s.askStop p).duty.move = false := congrArg Move.isOrdered hm
    exact (askStop_keepsRoster s p).trans (setMove_keepsRoster _ _ started rfl)
  · exact (askStop_keepsRoster s _).trans ((setFlag_keepsRoster _ _).trans (abandonChange_keepsRoster _ _ _ _ _ rfl))

theorem stopExcess_keepsRoster (s : State) : KeepsRoster s s.stopExcess := by
  unfold State.stopExcess
  rw [askStops_eq]
  exact .of_same rfl rfl rfl rfl rfl

theorem startOne_keepsRoster (s : State) (h : s.duty.move.inFlight = false) : KeepsRoster s s.startOne := by
  unfold State.startOne State.fallShort
  split
  · exact .of_same rfl rfl rfl rfl (isOrdered_of_idle h).symm
  · refine .of_same ?_ ?_ ?_ ?_ ?_ <;> simp [limitTerms]

theorem changeOver_keepsRoster (s : State) (h : s.duty.move.inFlight = false) : KeepsRoster s s.changeOver := by
  unfold State.changeOver
  split
  · exact .of_same rfl rfl rfl rfl (isOrdered_of_idle h).symm
  · exact .refl s
  · exact .refl s

/-! ## Reconcile and the event (R177) -/

/-- What the first of cases 1 to 3 that holds does. -/
theorem reconcileOnce_cases {s t : State} (h : s.reconcileOnce = some t) :
    (s.duty.case1 = true ∧ t = s.endMove.stopExcess) ∨
      (s.duty.move.inFlight = false ∧ s.duty.runningCount < s.duty.limit ∧ t = s.startOne) ∨
        (s.duty.move.inFlight = false ∧ s.duty.runningCount = s.duty.limit ∧ t = s.changeOver) := by
  unfold State.reconcileOnce at h
  split at h
  · next hc => exact Or.inl ⟨hc, (Option.some.inj h).symm⟩
  · split at h
    · next hc =>
      simp only [Duty.case2, Bool.and_eq_true, Bool.not_eq_true', decide_eq_true_eq] at hc
      exact Or.inr (Or.inl ⟨hc.1, hc.2, (Option.some.inj h).symm⟩)
    · split at h
      · next hc =>
        simp only [Duty.case3, Bool.and_eq_true, Bool.not_eq_true', beq_iff_eq] at hc
        exact Or.inr (Or.inr ⟨hc.1.1, hc.1.2, (Option.some.inj h).symm⟩)
      · cases h

theorem reconcileOnce_keepsRoster {s t : State} (h : s.reconcileOnce = some t) : KeepsRoster s t := by
  rcases reconcileOnce_cases h with ⟨-, rfl⟩ | ⟨idle, -, rfl⟩ | ⟨idle, -, rfl⟩
  · exact (endMove_keepsRoster s).trans (stopExcess_keepsRoster _)
  · exact startOne_keepsRoster s idle
  · exact changeOver_keepsRoster s idle

/-- The duty record with its pending rotation applied (R181). -/
def pendingApplied (d : Duty) : Duty := { d with rotationPending := false, roster := rotated d.roster }

theorem pendingApplied_keepsRoster (s : State) : KeepsRoster s (s.setDuty (pendingApplied s.duty)) :=
  ⟨rfl, fun held => held.rotate rfl rfl rfl rfl⟩

/-- What a reconcile does: one of cases 1 to 3, nothing, or case 4 with at most one of cases 1 to 3 after it. -/
theorem reconcile_cases (s : State) :
    s.reconcileOnce = some s.reconcile ∨
      (s.reconcileOnce = none ∧
        (s.reconcile = s ∨ s.reconcile = s.setDuty { s.duty with rotationPending := false } ∨
          (s.setDuty (pendingApplied s.duty)).reconcileOnce = some s.reconcile ∨
            ((s.setDuty (pendingApplied s.duty)).reconcileOnce = none ∧
              s.reconcile = s.setDuty (pendingApplied s.duty)))) := by
  unfold State.reconcile
  cases once : s.reconcileOnce with
  | some t => exact Or.inl rfl
  | none =>
    refine Or.inr ⟨rfl, ?_⟩
    dsimp only
    split
    · unfold State.applyPending
      dsimp only
      split
      · exact Or.inr (Or.inl rfl)
      · refine Or.inr (Or.inr ?_)
        split
        · next t again => exact Or.inl again
        · next again => exact Or.inr ⟨again, rfl⟩
    · exact Or.inl rfl

theorem reconcile_keepsRoster (s : State) : KeepsRoster s s.reconcile := by
  rcases reconcile_cases s with once | ⟨-, same | same | again | ⟨-, same⟩⟩
  · exact reconcileOnce_keepsRoster once
  · rw [same]
    exact .refl s
  · rw [same]
    exact .of_same rfl rfl rfl rfl rfl
  · exact (pendingApplied_keepsRoster s).trans (reconcileOnce_keepsRoster again)
  · rw [same]
    exact pendingApplied_keepsRoster s

theorem settleShortfall_keepsRoster (s : State) : KeepsRoster s s.settleShortfall := by
  unfold State.settleShortfall
  split
  · exact .of_same rfl rfl rfl rfl rfl
  · exact .refl s

/-- The state with the running limit computed (R174). -/
def limitedState (s : State) : State := { s with duty := { s.duty with limit := runningLimit s.duty } }

/-- Steps 3 to 5 of R177: the limit, then the reconcile and the shortfall mark if the event has disturbed the duty record. -/
theorem dutyEvent_eq (s : State) (before : Duty) :
    s.dutyEvent before =
      if before.disturbed (limitedState s).duty then (limitedState s).reconcile.settleShortfall else limitedState s := by
  unfold State.dutyEvent
  rw [limitOf_eq]
  rfl

/-- Steps 3 to 5 of R177 once the limit has been computed. -/
theorem dutyEvent_keepsRoster (s : State) (before : Duty) : KeepsRoster (limitedState s) (s.dutyEvent before) := by
  rw [dutyEvent_eq]
  split
  · exact (reconcile_keepsRoster _).trans (settleShortfall_keepsRoster _)
  · exact .refl _

/-- An event leaves the limit that its terms give (R174). -/
theorem dutyEvent_limit (s : State) (before : Duty) : (s.dutyEvent before).duty.limit = runningLimit s.duty :=
  (dutyEvent_keepsRoster s before).limit

/-- An event on rosters in order leaves them so, the limit computed. -/
theorem dutyEvent_rosterInv {s : State} (before : Duty) (h : RosterHeld s) : RosterInv (s.dutyEvent before) :=
  (dutyEvent_keepsRoster s before).inv ((rosterInv_iff _).mpr ⟨⟨h.roster, h.saved, h.ordered⟩, rfl⟩)

end Sys2Proof
end

/-!
# Steps 3 to 5 of a duty event

The number of pumps counted running after each case of reconcile, and the bound of R182 that it gives.
-/

section
namespace Sys2Proof

open Sys2Proof.Machine

/-! ## Pumps told to stop (R173, R178) -/

/-- The pumps that case 1 stops: those counted running last in the roster, until L run (R178). -/
def excess (d : Duty) (limit : Nat) : List PumpNo := (countedSet d).reverse.take ((countedSet d).length - limit)

theorem stopExcess_eq (s : State) :
    s.stopExcess =
      { s with
        wires := { s.wires with
          pumpRequests := s.wires.pumpRequests ++ (excess s.duty s.duty.limit).map fun p => .stop p }
        duty := { s.duty with
          view := tab fun p =>
            if p ∈ excess s.duty s.duty.limit then { sel s.duty.view p with stopSent := true } else sel s.duty.view p } } :=
  askStops_eq (excess s.duty s.duty.limit) s

/-- A list without the last of its elements is at most as long as what stands before them. -/
theorem filter_notMem_last_length_le (l : List PumpNo) (k : Nat) :
    (l.filter fun p => decide (p ∉ l.reverse.take (l.length - k))).length ≤ k := by
  have last : l.reverse.take (l.length - k) = (l.drop (l.length - (l.length - k))).reverse := List.take_reverse
  have gone : (l.drop (l.length - (l.length - k))).filter
      (fun p => decide (p ∉ l.reverse.take (l.length - k))) = [] := by
    refine List.filter_eq_nil_iff.mpr fun p hp => ?_
    simp [last, hp]
  calc (l.filter fun p => decide (p ∉ l.reverse.take (l.length - k))).length
      = ((l.take (l.length - (l.length - k)) ++ l.drop (l.length - (l.length - k))).filter
          fun p => decide (p ∉ l.reverse.take (l.length - k))).length := by rw [List.take_append_drop]
    _ = ((l.take (l.length - (l.length - k))).filter fun p => decide (p ∉ l.reverse.take (l.length - k))).length := by
        rw [List.filter_append, gone, List.append_nil]
    _ ≤ (l.take (l.length - (l.length - k))).length := List.length_filter_le _ _
    _ ≤ k := by
        rw [List.length_take]
        omega

/-- Once the excess has been told to stop, no more than L pumps are counted running (R178). -/
theorem stopExcess_count (s : State) : (countedSet s.stopExcess.duty).length ≤ s.duty.limit := by
  have counted : countedSet s.stopExcess.duty =
      (countedSet s.duty).filter fun p => decide (p ∉ excess s.duty s.duty.limit) := by
    rw [stopExcess_eq, countedSet, countedSet, List.filter_filter]
    refine List.filter_congr fun p _ => ?_
    simp only [countedRunning, sel_tab]
    split
    · next told => simp [told]
    · next other => simp [other]
  rw [counted]
  exact filter_notMem_last_length_le (countedSet s.duty) s.duty.limit

theorem stopExcess_move (s : State) : s.stopExcess.duty.move = s.duty.move := by
  rw [stopExcess_eq]

/-- Case 1 leaves no move in flight (R178). -/
theorem endMove_move (s : State) : s.endMove.duty.move = .none := by
  unfold State.endMove
  split
  · next h => exact h
  · rfl
  · rw [abandonChange_eq]
    unfold changeOrderEnded
    split
    · rfl
    · rw [State.complete_duty]
      rfl

/-! ## The bound of R182 -/

theorem idle_iff (m : Move) : m.inFlight = false ↔ m = .none := by cases m <;> simp [Move.inFlight]

/-- The pumps counted running or being started are no more than L. -/
def WithinLimit (d : Duty) : Prop := (countedSet d).length + startsOne d.move ≤ d.limit

theorem withinLimit_of_none {s : State} (h : s.reconcileOnce = none) : WithinLimit s.duty := by
  unfold State.reconcileOnce at h
  split at h
  · cases h
  · next case1 =>
    simp only [Duty.case1, decide_eq_true_eq, Nat.not_lt] at case1
    rw [runningCount_eq, starting_eq] at case1
    exact case1

theorem startOne_withinLimit {s : State} (idle : s.duty.move.inFlight = false) (h : s.duty.runningCount < s.duty.limit) :
    WithinLimit s.startOne.duty := by
  unfold State.startOne
  split
  · exact Nat.succ_le_of_lt h
  · have short : WithinLimit { s.duty with shortfall := true } := by
      unfold WithinLimit
      rw [(idle_iff _).mp idle]
      exact Nat.le_of_lt h
    unfold State.fallShort
    rw [State.setFlagIf_duty]
    exact short

theorem changeOver_withinLimit {s : State} (idle : s.duty.move.inFlight = false)
    (h : s.duty.runningCount = s.duty.limit) : WithinLimit s.changeOver.duty := by
  have stands : WithinLimit s.duty := by
    unfold WithinLimit
    rw [(idle_iff _).mp idle]
    exact h.le
  unfold State.changeOver
  split
  · exact h.le
  · exact stands
  · exact stands

/-- Whichever of cases 1 to 3 holds, the bound stands after it. -/
theorem reconcileOnce_withinLimit {s t : State} (h : s.reconcileOnce = some t) : WithinLimit t.duty := by
  rcases reconcileOnce_cases h with ⟨-, rfl⟩ | ⟨idle, fewer, rfl⟩ | ⟨idle, asMany, rfl⟩
  · unfold WithinLimit
    rw [stopExcess_move, endMove_move, (stopExcess_keepsRoster _).limit]
    exact stopExcess_count s.endMove
  · exact startOne_withinLimit idle fewer
  · exact changeOver_withinLimit idle asMany

/-- After a reconcile the bound stands (R182). -/
theorem reconcile_withinLimit (s : State) : WithinLimit s.reconcile.duty := by
  rcases reconcile_cases s with once | ⟨calm, same | same | again | ⟨calmAgain, same⟩⟩
  · exact reconcileOnce_withinLimit once
  · rw [same]
    exact withinLimit_of_none calm
  · have stands := withinLimit_of_none calm
    rw [same]
    exact stands
  · exact reconcileOnce_withinLimit again
  · rw [same]
    exact withinLimit_of_none calmAgain

/-- With a CHANGE's incoming counted too, the bound is L + 1 (R182). -/
theorem WithinLimit.changing {d : Duty} (h : WithinLimit d) :
    (countedSet d).length + (if d.move = .none then 0 else 1) ≤ d.limit + 1 := by
  unfold WithinLimit at h
  split <;> omega

/-! ## Steps 3 to 5 (R177, R179) -/

/-- What reconcile runs for (R177 step 4, log 20). -/
theorem disturbed_iff (old new : Duty) :
    old.disturbed new = true ↔ new.limit ≠ old.limit ∨ new.roster ≠ old.roster ∨ new.move ≠ old.move ∨
      ∃ p, (sel new.view p).state ≠ (sel old.view p).state ∨ (sel new.view p).available ≠ (sel old.view p).available := by
  unfold Duty.disturbed
  simp only [Bool.or_eq_true, bne_iff_ne, List.any_eq_true, List.mem_finRange, true_and, or_assoc]
  simp only [ne_comm]

theorem settleShortfall_eq (s : State) :
    s.settleShortfall = { s with duty := { s.duty with
      shortfall :=
        if s.duty.limit ≤ (countedSet s.duty).length + startsOne s.duty.move then false else s.duty.shortfall } } := by
  unfold State.settleShortfall
  rw [runningCount_eq, starting_eq]
  split <;> rfl

end Sys2Proof

open Sys2Proof Sys2Proof.Machine

/-- Settles O59: the limit computed, the reconcile and the shortfall mark of a disturbed record, and the bound that stands after
every case of reconcile. -/
theorem dutyEventBoundsRunning : Obligations.DutyEventBoundsRunning := by
  intro before s limited d disturbed t
  have event : t = if before.disturbed d then limited.reconcile.settleShortfall else limited := dutyEvent_eq s before
  refine ⟨fun calm => event.trans (if_neg (mt (disturbed_iff before d).mp calm)), fun stirred => ?_⟩
  intro u enough
  have settled : t = u.settleShortfall := event.trans (if_pos ((disturbed_iff before d).mpr stirred))
  rw [settleShortfall_eq] at settled
  have within : WithinLimit t.duty := by
    rw [settled]
    exact reconcile_withinLimit limited
  exact ⟨settled, fun _ => ⟨within, within.changing⟩⟩

end

/-!
# Reconcile by its cases

Which case of reconcile holds, in the words of the rules, and what each does: the move ended, the first pump available, the two
pumps of a changeover, the pending rotation.
-/

section
namespace Sys2Proof

open Sys2Proof.Machine

/-! ## Which case holds (R178 to R181) -/

theorem case1_iff (d : Duty) : d.case1 = true ↔ d.limit < (countedSet d).length + startsOne d.move := by
  unfold Duty.case1
  rw [runningCount_eq, starting_eq, decide_eq_true_eq]

theorem case2_iff (d : Duty) : d.case2 = true ↔ d.move = .none ∧ (countedSet d).length < d.limit := by
  unfold Duty.case2
  rw [Bool.and_eq_true, Bool.not_eq_true', idle_iff, decide_eq_true_eq, runningCount_eq]

theorem case3_iff (d : Duty) :
    d.case3 = true ↔ d.move = .none ∧ (countedSet d).length = d.limit ∧
      ∃ p ∈ d.roster, ¬(countedRunning d p = true ↔ p ∈ targetSet d) := by
  unfold Duty.case3
  rw [Bool.and_eq_true, Bool.and_eq_true, Bool.not_eq_true', idle_iff, beq_iff_eq, runningCount_eq, Bool.not_eq_true',
    ← Bool.not_eq_true, onTarget_iff, and_assoc]
  simp only [not_forall, exists_prop]

section reconcile
variable {s : State}

theorem reconcile_case1 (h : s.duty.case1 = true) : s.reconcile = s.endMove.stopExcess := by
  unfold State.reconcile State.reconcileOnce
  rw [if_pos h]

/-- With no move in flight and no more pumps running than L allows, case 1 does not hold. -/
theorem not_case1 (hm : s.duty.move = .none) (h : (countedSet s.duty).length ≤ s.duty.limit) : ¬s.duty.case1 = true := by
  rw [case1_iff, hm]
  exact Nat.not_lt.mpr h

theorem reconcile_case2 (hm : s.duty.move = .none) (h : (countedSet s.duty).length < s.duty.limit) :
    s.reconcile = s.startOne := by
  unfold State.reconcile State.reconcileOnce
  rw [if_neg (not_case1 hm h.le), if_pos ((case2_iff _).mpr ⟨hm, h⟩)]

theorem reconcile_case3 (h : s.duty.case3 = true) : s.reconcile = s.changeOver := by
  obtain ⟨hm, full, -⟩ := (case3_iff _).mp h
  have case2 : ¬s.duty.case2 = true := fun c => ((case2_iff _).mp c).2.ne full
  unfold State.reconcile State.reconcileOnce
  rw [if_neg (not_case1 hm full.le), if_neg case2, if_pos h]

theorem reconcileOnce_none (h1 : ¬s.duty.case1 = true) (h2 : ¬s.duty.case2 = true) (h3 : ¬s.duty.case3 = true) :
    s.reconcileOnce = none := by
  unfold State.reconcileOnce
  rw [if_neg h1, if_neg h2, if_neg h3]

/-- With none of cases 1 to 3 a reconcile does what case 4 says, or nothing. -/
theorem reconcile_none (h : s.reconcileOnce = none) :
    s.reconcile = if !s.duty.move.inFlight && s.duty.rotationPending then s.applyPending else s := by
  unfold State.reconcile
  rw [h]

/-! ## The move ended (R178) -/

theorem endMove_idle (h : s.duty.move = .none) : s.endMove = s := by
  unfold State.endMove
  rw [h]

theorem endMove_start {p : PumpNo} (h : s.duty.move = .start p) : s.endMove = (s.askStop p).setMove .none := by
  unfold State.endMove
  rw [h]

theorem endMove_change {i o : PumpNo} {origin : Origin} (h : s.duty.move = .change i o origin) :
    s.endMove = changeOrderEnded .overtaken i o
      { withFlag (stopSentTo i s) .pump with duty := restoredWith .none (stopSentTo i s).duty } := by
  unfold State.endMove
  rw [h]
  exact abandonChange_eq .none .overtaken i o _

/-! ## The first pump available (R179) -/

theorem startOne_available {pre post : List PumpNo} {p : PumpNo} (hr : s.duty.roster = pre ++ p :: post)
    (hp : countedAvailable s.duty p = true) (first : ∀ q ∈ pre, countedAvailable s.duty q = false) :
    s.startOne = (s.askStart p).setMove (.start p) := by
  have found : s.duty.roster.find? s.duty.countsAvailable = some p := by
    refine List.find?_eq_some_iff_append.mpr ⟨hp, pre, post, hr, fun q hq => ?_⟩
    rw [countsAvailable_eq, first q hq]
    rfl
  unfold State.startOne
  rw [found]

theorem startOne_short (h : ∀ p ∈ s.duty.roster, countedAvailable s.duty p = false) : s.startOne = s.fallShort := by
  have found : s.duty.roster.find? s.duty.countsAvailable = none := by
    refine List.find?_eq_none.mpr fun p hp => ?_
    rw [countsAvailable_eq, h p hp]
    exact Bool.false_ne_true
  unfold State.startOne
  rw [found]

/-- PUMP is set at the onset of a shortfall (R179). -/
theorem fallShort_onset (h : s.duty.shortfall = false) :
    s.fallShort = { withFlag s .pump with duty := { s.duty with shortfall := true } } := by
  unfold State.fallShort
  rw [h]
  rfl

theorem fallShort_again (h : s.duty.shortfall = true) : s.fallShort = s := by
  unfold State.fallShort
  rw [h]
  have same : ({ s.duty with shortfall := true } : Duty) = s.duty := by rw [← h]
  rw [same]
  rfl

/-! ## The pending rotation (R181) -/

theorem applyPending_dropped (h : s.duty.lock = true ∨ s.duty.holdCopy = true) :
    s.applyPending = s.setDuty { s.duty with rotationPending := false } := by
  unfold State.applyPending
  exact if_pos (by simpa using h)

/-- After a rotation the cases are run anew, of which case 4 does nothing more. -/
theorem applyPending_rotates (hl : s.duty.lock = false) (hc : s.duty.holdCopy = false) :
    s.applyPending = (s.setDuty (pendingApplied s.duty)).reconcile := by
  have cleared : ∀ t : State, t.duty.rotationPending = false →
      t.reconcile = match t.reconcileOnce with | some u => u | none => t := by
    intro t ht
    unfold State.reconcile
    rw [ht, Bool.and_false]
    rfl
  rw [cleared _ rfl]
  unfold State.applyPending
  rw [hl, hc]
  rfl

end reconcile

/-! ## The two pumps of a changeover (R176, R180) -/

section changeover
variable {d : Duty}

theorem mem_countedSet {p : PumpNo} : p ∈ countedSet d ↔ p ∈ d.roster ∧ countedRunning d p = true := List.mem_filter

theorem mem_roster_of_target {p : PumpNo} (h : p ∈ targetSet d) : p ∈ d.roster :=
  List.mem_of_mem_filter (List.mem_of_mem_take h)

/-- A pump of the target set that is not counted running is counted available (R176). -/
theorem available_of_target {p : PumpNo} (h : p ∈ targetSet d) (hp : countedRunning d p = false) :
    countedAvailable d p = true := by
  have wanted := (List.mem_filter.mp (List.mem_of_mem_take h)).2
  rwa [hp, Bool.false_or] at wanted

/-- With L pumps counted running, the target set holds L pumps too. -/
theorem targetSet_length (h : (countedSet d).length = d.limit) : (targetSet d).length = d.limit := by
  have fewer : (countedSet d).length ≤ (d.roster.filter fun p => countedRunning d p || countedAvailable d p).length :=
    (List.monotone_filter_right _ fun p hp => by simp [hp]).length_le
  unfold targetSet
  rw [List.length_take]
  omega

/-- With L pumps of the roster counted running, neither they nor the target set hold the other, unless they are the same. -/
theorem sets_apart (once : d.roster.Nodup) (full : (countedSet d).length = d.limit)
    (differ : ∃ p ∈ d.roster, ¬(countedRunning d p = true ↔ p ∈ targetSet d)) :
    ¬targetSet d ⊆ countedSet d ∧ ¬countedSet d ⊆ targetSet d := by
  have size := (targetSet_length full).trans full.symm
  have target : (targetSet d).Nodup := (once.filter _).sublist (List.take_sublist _ _)
  have distinct : ¬(targetSet d).Perm (countedSet d) := by
    intro same
    obtain ⟨p, hp, unlike⟩ := differ
    rw [same.mem_iff, mem_countedSet] at unlike
    exact unlike ⟨fun run => ⟨hp, run⟩, fun run => run.2⟩
  constructor
  · exact fun sub => distinct ((target.subperm sub).perm_of_length_le size.ge)
  · exact fun sub => distinct (((once.filter _).subperm sub).perm_of_length_le size.le).symm

theorem nextIncoming_exists (h : ¬targetSet d ⊆ countedSet d) :
    ∃ i, d.nextIncoming = some i ∧ countedAvailable d i = true ∧
      ∃ pre post, targetSet d = pre ++ i :: post ∧ countedRunning d i = false ∧
        ∀ q ∈ pre, countedRunning d q = true := by
  obtain ⟨p, hp, idle⟩ : ∃ p ∈ targetSet d, p ∉ countedSet d := by simpa [List.subset_def] using h
  have exists_one : (d.target.find? fun p => !d.countsRunning p).isSome := by
    refine List.find?_isSome.mpr ⟨p, hp, ?_⟩
    rw [countsRunning_eq, Bool.not_eq_true', ← Bool.not_eq_true]
    exact fun run => idle (mem_countedSet.mpr ⟨mem_roster_of_target hp, run⟩)
  obtain ⟨i, found⟩ := Option.isSome_iff_exists.mp exists_one
  obtain ⟨waits, pre, post, split, before⟩ := List.find?_eq_some_iff_append.mp found
  have waits : countedRunning d i = false := by simpa only [Bool.not_eq_true', countsRunning_eq] using waits
  have wanted : i ∈ targetSet d := List.mem_of_find?_eq_some found
  refine ⟨i, found, available_of_target wanted waits, pre, post, split, waits, fun q hq => ?_⟩
  simpa only [Bool.not_not, countsRunning_eq] using before q hq

theorem nextOutgoing_exists (h : ¬countedSet d ⊆ targetSet d) :
    ∃ o, d.nextOutgoing = some o ∧
      ∃ pre post, countedSet d = pre ++ o :: post ∧ o ∉ targetSet d ∧ ∀ q ∈ post, q ∈ targetSet d := by
  obtain ⟨p, hp, out⟩ : ∃ p ∈ countedSet d, p ∉ targetSet d := by simpa [List.subset_def] using h
  have exists_one : (d.runningSet.reverse.find? fun p => decide (p ∉ d.target)).isSome :=
    List.find?_isSome.mpr ⟨p, List.mem_reverse.mpr hp, decide_eq_true out⟩
  obtain ⟨o, found⟩ := Option.isSome_iff_exists.mp exists_one
  obtain ⟨out, last, first, split, after⟩ := List.find?_eq_some_iff_append.mp found
  have whole : countedSet d = first.reverse ++ o :: last.reverse := by
    simpa [runningSet_eq] using List.reverse_eq_append_iff.mp split
  refine ⟨o, found, first.reverse, last.reverse, whole, of_decide_eq_true out, fun q hq => ?_⟩
  have inside := after q (List.mem_reverse.mp hq)
  rwa [Bool.not_eq_true', decide_eq_false_iff_not, not_not] at inside

end changeover

end Sys2Proof

open Sys2Proof Sys2Proof.Machine

/-- Settles O60: the case that holds, then what it does; the pumps of case 3 exist since as many run as the target set holds. -/
theorem reconcileByCases : Obligations.ReconcileByCases := by
  intro s ⟨once, _⟩ d running case1 case2 case3 none123 ask
  have calm : none123 → s.reconcileOnce = none := fun ⟨h1, h2, h3⟩ =>
    reconcileOnce_none (mt (case1_iff d).mp h1) (mt (case2_iff d).mp h2) (mt (case3_iff d).mp h3)
  refine ⟨?stop, fun ⟨still, fewer⟩ => ?start, fun h => ?change, fun h idle => ?nothing, fun h still pending => ?rotate⟩
  case stop =>
    intro h ended stops
    have ended_eq : s.endMove = ended := by
      cases hm : s.duty.move with
      | none =>
        rw [endMove_idle hm]
        simp only [ended, d, hm]
      | start p =>
        rw [endMove_start hm]
        simp only [ended, d, hm]
        rfl
      | change i o origin =>
        rw [endMove_change hm]
        simp only [ended, d, hm]
        rfl
    have limit : ended.duty.limit = d.limit := ended_eq ▸ (endMove_keepsRoster s).limit
    rw [reconcile_case1 ((case1_iff d).mpr h), ended_eq, stopExcess_eq, limit]
    rfl
  case start =>
    refine ⟨fun pre p post hr hp first => ?_, fun out => ?_⟩
    · rw [reconcile_case2 still fewer, startOne_available hr hp first]
      rfl
    · rw [reconcile_case2 still fewer, startOne_short out]
      exact ⟨fallShort_onset, fallShort_again⟩
  case change =>
    obtain ⟨-, full, differ⟩ := id h
    obtain ⟨more, less⟩ := sets_apart once full differ
    obtain ⟨i, incoming, available, first⟩ := nextIncoming_exists more
    obtain ⟨o, outgoing, last⟩ := nextOutgoing_exists less
    refine ⟨i, o, ?_, available, first, last⟩
    rw [reconcile_case3 ((case3_iff d).mpr h)]
    unfold State.changeOver
    rw [incoming, outgoing]
    rfl
  case nothing =>
    refine (reconcile_none (calm h)).trans (if_neg fun both => idle ?_)
    simpa only [Bool.and_eq_true, Bool.not_eq_true', idle_iff] using both
  case rotate =>
    have applies : (!d.move.inFlight && d.rotationPending) = true := by
      rw [(idle_iff _).mpr still, pending]
      rfl
    have applied : s.reconcile = s.applyPending := (reconcile_none (calm h)).trans (if_pos applies)
    refine ⟨fun held => applied.trans (applyPending_dropped held), fun free unheld p r hr => applied.trans ?_⟩
    rw [applyPending_rotates free unheld, pendingApplied, hr]
    rfl

end

/-!
# Events that reach the duty unit

The copies of the choke state and of the actions, the last W and a rotation expiry; a pump-change report by the move that it
finds.
-/

section
namespace Sys2Proof

open Sys2Proof.Machine

/-! ## Copies and rotation (R175, R177, R191) -/

section delivered
variable {s : State} (run : s.phase = .running)
include run

theorem chokeChangeEvent_head {c : Bool} {rest : List Bool} (hw : s.wires.chokeChanges = c :: rest) :
    s.chokeChangeEvent =
      (({ withWires s { s.wires with chokeChanges := rest } with duty := { s.duty with chokeCopy := c } }).dutyEvent
        s.duty) := by
  unfold State.chokeChangeEvent
  rw [s.whenRunning_running _ run, hw]
  rfl

theorem actionChangeEvent_head {floor : Option Nat} {hold : Bool} {rest : List (Option Nat × Bool)}
    (hw : s.wires.actionChanges = (floor, hold) :: rest) :
    s.actionChangeEvent =
      (({ withWires s { s.wires with actionChanges := rest } with
        duty := { s.duty with floorCopy := floor, holdCopy := hold } }).dutyEvent s.duty) := by
  unfold State.actionChangeEvent
  rw [s.whenRunning_running _ run, hw]
  rfl

theorem wReportDuty_head {w : Measure} {rest : List Measure} (hw : s.wires.wToDuty = w :: rest) :
    s.wReportDuty = { withWires s { s.wires with wToDuty := rest } with duty := { s.duty with lastW := w } } := by
  unfold State.wReportDuty
  rw [s.whenRunning_running _ run, hw]
  rfl

theorem rotationExpiry_head {k : Nat} (hw : s.wires.rotationExpiries = k + 1) :
    s.rotationExpiry = (withWires s { s.wires with rotationExpiries := k }).rotate := by
  unfold State.rotationExpiry
  rw [s.whenRunning_running _ run, hw]
  rfl

theorem pumpChangeReport_head {r : PumpReport} {rest : List PumpReport} (hw : s.wires.pumpReports = r :: rest) :
    s.pumpChangeReport = (withWires s { s.wires with pumpReports := rest }).hearReport r := by
  unfold State.pumpChangeReport
  rw [s.whenRunning_running _ run, hw]
  rfl

end delivered

section rotate
variable {s : State}

theorem rotate_discarded (h : s.duty.lock = true ∨ s.duty.holdCopy = true) : s.rotate = s := by
  unfold State.rotate
  exact if_pos (by simpa using h)

/-- A rotation that is not discarded waits for the move in flight or is an event of the roster rotated (R191). -/
theorem rotate_free (hl : s.duty.lock = false) (hc : s.duty.holdCopy = false) :
    s.rotate =
      if s.duty.move.inFlight then s.setDuty { s.duty with rotationPending := true }
      else (s.setDuty { s.duty with roster := rotated s.duty.roster }).dutyEvent s.duty := by
  unfold State.rotate
  dsimp only
  rw [hl, hc]
  rfl

end rotate

/-! ## A pump-change report (R173, R183 to R186) -/

section report
variable {s : State} {r : PumpReport} {mark : Bool}

/-- When a report clears the stop-sent mark of its pump (R173). -/
theorem clearsStop_iff (r : PumpReport) :
    r.clearsStop = true ↔ r.state = .stopping ∨ r.state = .tripped ∨ r.refused = true := by
  simp [PumpReport.clearsStop, or_assoc]

theorem proves_iff (r : PumpReport) (mark : Bool) : r.proves mark = true ↔ r.state = .running ∧ mark = false := by
  simp [PumpReport.proves]

theorem endsStart_iff (r : PumpReport) (mark : Bool) :
    r.endsStart mark = true ↔ (r.state = .running ∧ mark = false) ∨ r.state = .stopping ∨ r.state = .tripped ∨
      r.refused = true := by
  unfold PumpReport.endsStart
  rw [Bool.or_eq_true, proves_iff, clearsStop_iff]

theorem leaves_iff (r : PumpReport) (mark : Bool) :
    r.leaves mark = true ↔ r.state = .tripped ∨ (r.state = .stopping ∧ mark = false) := by
  simp [PumpReport.leaves]

/-- The view of a pump after its report (R173). -/
theorem hear_eq (r : PumpReport) (v : PumpView) :
    v.hear r =
      { state := r.state, available := r.available
        stopSent := if r.state = .stopping ∨ r.state = .tripped ∨ r.refused = true then false else v.stopSent } := by
  unfold PumpView.hear
  cases hc : r.clearsStop with
  | true => rw [if_pos ((clearsStop_iff r).mp hc), Bool.not_true, Bool.and_false]
  | false => rw [if_neg (mt (clearsStop_iff r).mpr (by simp [hc])), Bool.not_false, Bool.and_true]

theorem moveRules_idle (h : s.duty.move = .none) : s.moveRules r mark = s := by
  unfold State.moveRules
  rw [h]

theorem moveRules_start {p : PumpNo} (h : s.duty.move = .start p) :
    s.moveRules r mark = if r.pump = p ∧ r.endsStart mark = true then s.setMove .none else s := by
  unfold State.moveRules
  rw [h]

theorem moveRules_incoming {i o : PumpNo} {origin : Origin} (h : s.duty.move = .change i o origin) (hp : r.pump = i) :
    s.moveRules r mark = s.incomingReport r mark i o := by
  unfold State.moveRules
  rw [h]
  exact if_pos hp

/-- A report of another pump than the incoming: the outgoing leaves duty, or nothing (R186). -/
theorem moveRules_outgoing {i o : PumpNo} {origin : Origin} (h : s.duty.move = .change i o origin) (hp : r.pump ≠ i) :
    s.moveRules r mark =
      if r.pump = o ∧ r.leaves mark = true then
        changeOrderEnded .overtaken i o { withFlag s .pump with duty := restoredWith (.start i) s.duty }
      else s := by
  unfold State.moveRules
  rw [h]
  dsimp only
  rw [if_neg hp, abandonChange_eq]
  rfl

theorem incomingReport_proves {i o : PumpNo} (h : r.proves mark = true) :
    s.incomingReport r mark i o =
      changeOrderEnded .ok i o
        { stopSentTo o s with duty := { (stopSentTo o s).duty with move := .none, savedRoster := none } } := by
  unfold State.incomingReport
  rw [if_pos h]
  rfl

/-- The incoming of a CHANGE that does not prove: the CHANGE fails, is overtaken, or goes on (R185). -/
theorem incomingReport_fails {i o : PumpNo} (h : r.proves mark = false) :
    s.incomingReport r mark i o =
      match r.failure with
      | some result => changeOrderEnded result i o { withFlag s .pump with duty := restoredWith .none s.duty }
      | none => s := by
  unfold State.incomingReport
  rw [h, if_neg Bool.false_ne_true]
  cases r.failure with
  | some result => exact abandonChange_eq .none result i o (withFlag s .pump)
  | none => rfl

end report

end Sys2Proof

open Sys2Proof Sys2Proof.Machine

/-- Settles O57: each event with its message at the head, and a rotation by the lock, the hold state and the move. -/
theorem dutyCopiesAndRotation : Obligations.DutyCopiesAndRotation := by
  intro s run d
  refine ⟨fun c rest hw => ?_, fun floor hold rest hw => ?_, fun w rest hw => ?_, fun k hw => ?_⟩
  · exact congrArg Host.Outcome.next (chokeChangeEvent_head run hw)
  · exact congrArg Host.Outcome.next (actionChangeEvent_head run hw)
  · exact congrArg Host.Outcome.next (wReportDuty_head run hw)
  · intro t
    have expiry : ∀ u, t.rotate = u → exec .rotationExpiry s = .next u := fun u hu =>
      congrArg Host.Outcome.next ((rotationExpiry_head run hw).trans hu)
    refine ⟨fun held => expiry _ (rotate_discarded held), fun free unheld => ⟨fun moving => ?_, fun still p r hr => ?_⟩⟩
    · exact expiry _ ((rotate_free (s := t) free unheld).trans (if_pos ((inFlight_iff _).mpr moving)))
    · have idle : ¬t.duty.move.inFlight = true := mt (inFlight_iff _).mp (not_not.mpr still)
      refine expiry _ ((rotate_free (s := t) free unheld).trans ((if_neg idle).trans ?_))
      have roster : t.duty.roster = p :: r := hr
      rw [roster]
      rfl

/-- Settles O58: the view copied, then the rule of the move in flight, by which of its pumps reports what. -/
theorem pumpReportMoveRules : Obligations.PumpReportMoveRules := by
  intro s r rest run hw mark clears view heard t settles proves
  have settle : ∀ u, t.moveRules r mark = u → settles u := by
    rintro u rfl
    refine congrArg Host.Outcome.next ((pumpChangeReport_head run hw).trans ?_)
    unfold State.hearReport Duty.hear
    rw [hear_eq]
    rfl
  refine ⟨fun still => settle _ (moveRules_idle still), fun p hm => ⟨fun hp ends => ?_, fun other => ?_⟩,
    fun i o origin hm apart => ?_⟩
  · exact settle _ ((moveRules_start (s := t) hm).trans (if_pos ⟨hp, (endsStart_iff r mark).mpr ends⟩))
  · refine settle _ ((moveRules_start (s := t) hm).trans (if_neg fun ⟨hp, ends⟩ => other ⟨hp, ?_⟩))
    exact (endsStart_iff r mark).mp ends
  · intro failed leaves
    refine ⟨fun hp => ?incoming, fun hp => ?outgoing, fun hi ho => ?other⟩
    case incoming =>
      have fails : ¬proves → t.moveRules r mark = match r.failure with
          | some result => failed .none result
          | none => t := fun unproved =>
        (moveRules_incoming (s := t) hm hp).trans
          (incomingReport_fails (Bool.eq_false_of_not_eq_true (mt (proves_iff r mark).mp unproved)))
      refine ⟨fun proved => ?_, fun unproved tripped => ?_, fun unproved untripped ends => ?_, fun unproved goes => ?_⟩
      · exact settle _ ((moveRules_incoming (s := t) hm hp).trans (incomingReport_proves ((proves_iff r mark).mpr proved)))
      · refine settle _ ((fails unproved).trans ?_)
        rw [PumpReport.failure, if_pos tripped]
      · refine settle _ ((fails unproved).trans ?_)
        rw [PumpReport.failure, if_neg untripped, if_pos ends]
      · refine settle _ ((fails unproved).trans ?_)
        obtain ⟨stopping, tripped, refused⟩ : r.state ≠ .stopping ∧ r.state ≠ .tripped ∧ ¬r.refused = true := by
          simpa only [clears, not_or] using goes
        rw [PumpReport.failure, if_neg tripped, if_neg (not_or.mpr ⟨stopping, refused⟩)]
    case outgoing =>
      have outgoing := moveRules_outgoing (s := t) (r := r) (mark := mark) hm (hp ▸ apart.symm)
      refine ⟨fun left => ?_, fun stays => ?_⟩
      · exact settle _ (outgoing.trans (if_pos ⟨hp, (leaves_iff r mark).mpr left⟩))
      · exact settle _ (outgoing.trans (if_neg fun both => stays ((leaves_iff r mark).mp both.2)))
    case other => exact settle _ ((moveRules_outgoing (s := t) hm hi).trans (if_neg fun both => ho both.1))

end

/-!
# The immediate orders of the duty unit

SET_DEMAND and SET_CHOKE by their checks, SET_ROSTER by the pumps that its words name, LOCK_DUTY.
-/

section
namespace Sys2Proof

open Sys2Proof.Machine

/-! ## The pumps that words name (R194) -/

theorem pumpOfWord_iff (w : Word) (p : PumpNo) : pumpOfWord w = some p ↔ p.1 = w.toNat := by
  refine ⟨fun h => ?_, fun h => pumpOfWord_eq w p h.symm⟩
  by_cases hw : w.toNat ≤ 5
  · rw [pumpOfWord_some w hw] at h
    cases h
    rfl
  · cases (pumpOfWord_above w (Nat.lt_of_not_le hw)).symm.trans h

theorem pumpsOfWords_cons (w : Word) (ws : List Word) (p : PumpNo) (ps : List PumpNo) :
    pumpsOfWords (w :: ws) = some (p :: ps) ↔ pumpOfWord w = some p ∧ pumpsOfWords ws = some ps := by
  rw [pumpsOfWords]
  cases pumpOfWord w <;> cases pumpsOfWords ws <;> simp

/-- Words name a list of pumps exactly when they are its pumps' numbers. -/
theorem pumpsOfWords_iff (ws : List Word) (ps : List PumpNo) :
    pumpsOfWords ws = some ps ↔ ps.map (fun p => p.1) = ws.map BitVec.toNat := by
  induction ws generalizing ps with
  | nil =>
    rw [pumpsOfWords, Option.some.injEq, List.map_nil, List.map_eq_nil_iff]
    exact eq_comm
  | cons w ws ih =>
    cases ps with
    | nil =>
      rw [pumpsOfWords]
      cases pumpOfWord w <;> cases pumpsOfWords ws <;> simp
    | cons p ps => rw [pumpsOfWords_cons, pumpOfWord_iff, ih, List.map_cons, List.map_cons, List.cons.injEq]

/-- Words each 0 to 5 name a list of pumps. -/
theorem pumpsOfWords_some (ws : List Word) (h : ∀ w ∈ ws, w.toNat ≤ 5) : ∃ ps, pumpsOfWords ws = some ps := by
  refine ⟨ws.pmap (fun w hw => ⟨w.toNat, Nat.lt_succ_of_le hw⟩) h, (pumpsOfWords_iff _ _).mpr ?_⟩
  rw [List.map_pmap, List.pmap_eq_map]

/-- A word above 5 names no pump. -/
theorem pumpsOfWords_none (ws : List Word) (h : ∃ w ∈ ws, 5 < w.toNat) : pumpsOfWords ws = none := by
  cases named : pumpsOfWords ws with
  | none => rfl
  | some ps =>
    obtain ⟨w, hw, above⟩ := h
    have number : w.toNat ∈ ps.map fun p => p.1 := by
      rw [(pumpsOfWords_iff ws ps).mp named]
      exact List.mem_map_of_mem hw
    obtain ⟨p, -, hp⟩ := List.mem_map.mp number
    have := p.isLt
    omega

/-- The argument words that SET_ROSTER reads (R194, R200). -/
theorem copyEntry_take (s : State) (e : Entry) (k : Nat) (hk : k ≤ 13) :
    (s.copyEntry e).args.take k = (List.range k).map fun i => argWord s e (3 + i) := by
  have address : ∀ i, entryAddr e 3 + i = entryAddr e (3 + i) := fun i => by
    unfold entryAddr
    omega
  simp only [State.copyEntry, State.words, ← List.map_take, List.take_range, Nat.min_eq_left hk, address]
  rfl

/-! ## SET_DEMAND and SET_CHOKE (R192, R193) -/

section orders
variable {s : State} {e : Entry} {rest : List Entry}

theorem setDemandRule_atHead :
    setDemandRule (s.copyEntry e) (takenState s e rest) =
      if s.duty.lock then refuse .locked (takenState s e rest)
      else if s.fittedPumps < argNum s e 3 then refuse .badArgument (takenState s e rest)
      else
        let t := ({ takenState s e rest with duty := { s.duty with demand := argNum s e 3 } }).dutyEvent s.duty
        reply [word s.duty.demand, word t.duty.limit] t := by
  unfold setDemandRule
  simp only [copyEntry_argNum, Nat.reduceLeDiff]
  rfl

theorem setChokeRule_atHead :
    setChokeRule (s.copyEntry e) (takenState s e rest) =
      if s.duty.lock then refuse .locked (takenState s e rest)
      else if argNum s e 3 < 1 ∨ s.fittedPumps < argNum s e 3 then refuse .badArgument (takenState s e rest)
      else
        let t := ({ takenState s e rest with duty := { s.duty with chokeLimit := argNum s e 3 } }).dutyEvent s.duty
        reply [word s.duty.chokeLimit, word t.duty.limit] t := by
  unfold setChokeRule
  simp only [copyEntry_argNum, Nat.reduceLeDiff]
  rfl

/-! ## SET_ROSTER (R194) -/

/-- The pumps that a SET_ROSTER names, if each word is 0 to 5. -/
def namedRoster (s : State) (e : Entry) : Option (List PumpNo) :=
  pumpsOfWords ((List.range s.fittedPumps).map fun i => argWord s e (3 + i))

/-- SET_ROSTER by its checks. -/
theorem setRosterRule_atHead (fitted : s.fittedPumps ≤ 6) :
    setRosterRule (s.copyEntry e) (takenState s e rest) =
      if s.duty.lock then refuse .locked (takenState s e rest)
      else if s.duty.move.inFlight then refuse .busy (takenState s e rest)
      else
        match namedRoster s e with
        | none => refuse .badArgument (takenState s e rest)
        | some ps =>
          if ps.any fun p => !s.pumpFitted p then refuse .notFitted (takenState s e rest)
          else if ¬ ps.Nodup then refuse .badArgument (takenState s e rest)
          else
            reply (s.duty.roster.map fun p => word p.1)
              (({ takenState s e rest with duty := { s.duty with roster := ps } }).dutyEvent s.duty) := by
  unfold setRosterRule namedRoster
  rw [takenState_fittedPumps, copyEntry_take s e _ (by omega)]
  rfl

theorem namedRoster_iff (s : State) (e : Entry) (ps : List PumpNo) :
    namedRoster s e = some ps ↔ ps.map (fun p => p.1) = (List.range s.fittedPumps).map fun i => argNum s e (3 + i) := by
  unfold namedRoster
  rw [pumpsOfWords_iff, List.map_map]
  rfl

theorem namedRoster_none (h : ¬∀ i, i < s.fittedPumps → argNum s e (3 + i) ≤ 5) : namedRoster s e = none := by
  obtain ⟨i, hi, above⟩ : ∃ i, i < s.fittedPumps ∧ 5 < argNum s e (3 + i) := by simpa using h
  exact pumpsOfWords_none _ ⟨_, List.mem_map_of_mem (List.mem_range.mpr hi), above⟩

theorem namedRoster_some (h : ∀ i, i < s.fittedPumps → argNum s e (3 + i) ≤ 5) : ∃ ps, namedRoster s e = some ps := by
  refine pumpsOfWords_some _ fun w hw => ?_
  obtain ⟨i, hi, rfl⟩ := List.mem_map.mp hw
  exact h i (List.mem_range.mp hi)

variable {ps : List PumpNo} (named : namedRoster s e = some ps)
include named

/-- The named pumps are fitted exactly when their numbers are below the fitted count (R21). -/
theorem namedRoster_fitted :
    (ps.any fun p => !s.pumpFitted p) = false ↔ ∀ i, i < s.fittedPumps → argNum s e (3 + i) < s.fittedPumps := by
  have numbers := (namedRoster_iff s e ps).mp named
  calc (ps.any fun p => !s.pumpFitted p) = false
      ↔ ∀ k ∈ ps.map fun p => p.1, k < s.fittedPumps := by simp [State.pumpFitted]
    _ ↔ ∀ i, i < s.fittedPumps → argNum s e (3 + i) < s.fittedPumps := by
        rw [numbers]
        simp

/-- The named pumps are distinct exactly when their words are. -/
theorem namedRoster_nodup :
    ps.Nodup ↔ ∀ i j, i < j → j < s.fittedPumps → argNum s e (3 + i) ≠ argNum s e (3 + j) := by
  rw [← List.nodup_map_iff Fin.val_injective, (namedRoster_iff s e ps).mp named]
  unfold List.Nodup
  rw [List.pairwise_map, List.pairwise_iff_getElem]
  simp only [List.getElem_range, List.length_range]
  exact ⟨fun h i j hij hj => h i j (hij.trans hj) hj hij, fun h i j _ hj hij => h i j hij hj⟩

end orders

end Sys2Proof

open Sys2Proof Sys2Proof.Machine

/-- Settles O55: each order's checks as its rule makes them, then the event of what it stores; the roster is read off its
words. -/
theorem dutyOrders : Obligations.DutyOrders := by
  intro s e rest fitted d settled
  refine ⟨fun h => ?demand, fun h => ?choke, fun h => ?roster, fun h => ends_of_rule (fun _ => rfl) rfl h rfl⟩
  case demand =>
    have rule := setDemandRule_atHead (s := s) (e := e) (rest := rest)
    refine ⟨fun locked => ?_, fun free above => ?_, fun free le => ⟨dutyEvent_limit _ _, ?_⟩⟩
    · exact refused_of_rule (fun _ => rfl) rfl h (rule.trans (if_pos locked))
    · rw [if_neg (Bool.eq_false_iff.mp free), if_pos above] at rule
      exact refused_of_rule (fun _ => rfl) rfl h rule
    · rw [if_neg (Bool.eq_false_iff.mp free), if_neg (Nat.not_lt.mpr le)] at rule
      exact ends_of_rule (fun _ => rfl) rfl h rule
  case choke =>
    have rule := setChokeRule_atHead (s := s) (e := e) (rest := rest)
    refine ⟨fun locked => ?_, fun free bad => ?_, fun free ge le => ⟨dutyEvent_limit _ _, ?_⟩⟩
    · exact refused_of_rule (fun _ => rfl) rfl h (rule.trans (if_pos locked))
    · rw [if_neg (Bool.eq_false_iff.mp free), if_pos (by omega)] at rule
      exact refused_of_rule (fun _ => rfl) rfl h rule
    · rw [if_neg (Bool.eq_false_iff.mp free), if_neg (by omega)] at rule
      exact ends_of_rule (fun _ => rfl) rfl h rule
  case roster =>
    intro read all distinct
    have rule := setRosterRule_atHead (e := e) (rest := rest) fitted
    refine ⟨fun locked => ?_, fun free moving => ?_, fun free still => ?_⟩
    · exact refused_of_rule (fun _ => rfl) rfl h (rule.trans (if_pos locked))
    · rw [if_neg (Bool.eq_false_iff.mp free), if_pos ((inFlight_iff _).mpr moving)] at rule
      exact refused_of_rule (fun _ => rfl) rfl h rule
    · rw [if_neg (Bool.eq_false_iff.mp free), if_neg (mt (inFlight_iff _).mp (not_not.mpr still))] at rule
      have named : all (fun k => k < s.fittedPumps) → ∃ ps, namedRoster s e = some ps := fun below =>
        namedRoster_some fun i hi => Nat.le_of_lt_succ ((below i hi).trans_le fitted)
      refine ⟨fun above => ?_, fun low unfitted => ?_, fun below twice => ?_, fun r hr below once => ?_⟩
      · rw [namedRoster_none above] at rule
        exact refused_of_rule (fun _ => rfl) rfl h rule
      · obtain ⟨ps, hps⟩ := namedRoster_some low
        rw [hps] at rule
        dsimp only at rule
        have some_unfitted := (Bool.not_eq_false _).mp (mt (namedRoster_fitted hps).mp unfitted)
        rw [if_pos some_unfitted] at rule
        exact refused_of_rule (fun _ => rfl) rfl h rule
      · obtain ⟨ps, hps⟩ := named below
        rw [hps] at rule
        dsimp only at rule
        rw [if_neg (Bool.eq_false_iff.mp ((namedRoster_fitted hps).mpr below)),
          if_pos (mt (namedRoster_nodup hps).mp twice)] at rule
        exact refused_of_rule (fun _ => rfl) rfl h rule
      · have hps := (namedRoster_iff s e r).mpr hr
        rw [hps] at rule
        dsimp only at rule
        rw [if_neg (Bool.eq_false_iff.mp ((namedRoster_fitted hps).mpr below)),
          if_neg (not_not.mpr ((namedRoster_nodup hps).mpr once))] at rule
        exact ends_of_rule (fun _ => rfl) rfl h rule

end

/-!
# What leaves the duty record

What each operation of another unit makes of the duty record: nothing. Only the duty unit's own events and a reset reach it
(`exec_duty`).
-/

section
namespace Sys2Proof

open Sys2Proof.Machine

variable (s : State)

theorem whenRunning_duty {f : State → State} (h : (f s).duty = s.duty) : (s.whenRunning f).duty = s.duty := by
  unfold State.whenRunning
  split
  · exact h
  all_goals rfl

theorem foldl_duty {α : Type} (f : State → α → State) (h : ∀ t a, (f t a).duty = t.duty) (l : List α) :
    (l.foldl f s).duty = s.duty := by
  induction l generalizing s with
  | nil => rfl
  | cons a l ih => exact (ih (f s a)).trans (h s a)

/-- A branch leaves the record if both sides do. -/
theorem ite_duty {s t u : State} {c : Prop} [Decidable c] (ht : t.duty = s.duty) (hu : u.duty = s.duty) :
    (if c then t else u).duty = s.duty := by
  split
  · exact ht
  · exact hu

/-! ## Takes and rules of the orders (R10, R12, R13) -/

theorem finish_duty (o : WorkingCopy) (r : Reply) : (finish o r).duty = r.1.duty := State.complete_duty _ _ _ _ _

theorem take_duty (kind : Option OrderKind) {body : WorkingCopy → State → State}
    (h : ∀ o t, (body o t).duty = t.duty) : (s.take kind body).duty = s.duty := by
  rcases s.take_cases kind body with same | ⟨e, rest, -, -, -, taken⟩
  · rw [same]
  · rw [taken, h]
    rfl

theorem takeImmediate_duty (kind : OrderKind) {rule : WorkingCopy → State → Reply}
    (h : ∀ o t, (rule o t).1.duty = t.duty) : (s.takeImmediate kind rule).duty = s.duty :=
  take_duty s _ fun o t => (finish_duty o _).trans (h o t)

/-- A rule that refuses or answers, by a condition. -/
theorem ite_rule_duty {s : State} {c : Prop} [Decidable c] {a b : Reply} (ha : a.1.duty = s.duty) (hb : b.1.duty = s.duty) :
    (if c then a else b).1.duty = s.duty := by
  split
  · exact ha
  · exact hb

theorem forScreen_duty (w : Word) (k : ScreenNo → Reply) (h : ∀ n, (k n).1.duty = s.duty) :
    (forScreen w s k).1.duty = s.duty := by
  rcases forScreen_cases w s k with hk | hk | ⟨n, -, hk⟩ <;> rw [hk]
  case inr.inr => exact h n
  all_goals rfl

theorem forPump_duty (w : Word) (k : PumpNo → Reply) (h : ∀ p, (k p).1.duty = s.duty) :
    (forPump w s k).1.duty = s.duty := by
  rcases forPump_cases w s k with hk | hk | ⟨p, -, hk⟩ <;> rw [hk]
  case inr.inr => exact h p
  all_goals rfl

theorem forSixteen_duty (w : Word) (k : Fin 16 → Reply) (h : ∀ i, (k i).1.duty = s.duty) :
    (forSixteen w s k).1.duty = s.duty := by
  rcases forSixteen_cases w s k with hk | ⟨i, hk⟩ <;> rw [hk]
  · rfl
  · exact h i

/-! ## The port -/

theorem hostWrite_duty (a : Addr) (w : Word) : (s.hostWrite a w).duty = s.duty := by
  have hand : ∀ e, (s.writeHand e w).duty = s.duty := fun e => by
    unfold State.writeHand
    split <;> rfl
  have entry : ∀ e o, (s.writeEntryWord e o w).duty = s.duty := fun e o => by
    unfold State.writeEntryWord
    split <;> rfl
  exact whenRunning_duty s (ite_duty rfl (ite_duty (hand _) (entry _ _)))

theorem snapshotRule_duty (o : WorkingCopy) : (snapshotRule o s).1.duty = s.duty := by
  refine ite_rule_duty rfl (ite_rule_duty rfl (ite_rule_duty rfl ?_))
  dsimp only [reply]
  rw [State.writeWords_frame]

/-! ## The time, level, tide and alarm units -/

theorem crystalConfirmed_duty : s.crystalConfirmed.duty = s.duty := by
  unfold State.crystalConfirmed
  split <;> rfl

theorem confirmRestart_duty : s.confirmRestart.duty = s.duty := by
  unfold State.confirmRestart
  split <;> rfl

theorem crystalFailure_duty : s.crystalFailure.duty = s.duty := by
  unfold State.crystalFailure
  dsimp only
  split
  · split
    case h_3 => exact ite_duty rfl rfl
    all_goals rfl
  · split <;> rfl

theorem sendSecond_duty (old new : Clock) : (s.sendSecond old new).duty = s.duty :=
  ite_duty (ite_duty rfl rfl) (ite_duty rfl rfl)

theorem secondStep_duty : s.secondStep.duty = s.duty := by
  unfold State.secondStep
  split
  case h_4 => exact sendSecond_duty _ _ _
  all_goals rfl

theorem stepTimer_duty (t : TimerNo) (u : TickUnit) : (s.stepTimer t u).duty = s.duty := by
  have told : ∀ (o : TimerOwner) (x : State), (x.tellOwner o).duty = x.duty := fun o x => by cases o <;> rfl
  exact ite_duty (ite_duty (told _ _) rfl) rfl

theorem reloadInterval_duty (n : ScreenNo) : (s.reloadInterval n).duty = s.duty := by
  unfold State.reloadInterval
  split
  · rfl
  · exact ite_duty rfl rfl

theorem setTimerRule_duty (o : WorkingCopy) : (setTimerRule o s).1.duty = s.duty := by
  have rewritten : ∀ (t : TimerNo) (w : TimerOwner) (u : TickUnit) (preset : Nat) (start : Bool),
      (rewriteTimer t w u preset start s).1.duty = s.duty := fun _ _ _ _ _ => ite_rule_duty rfl rfl
  refine forSixteen_duty s _ _ fun t => ite_rule_duty rfl ?_
  split
  · rfl
  · refine ite_rule_duty rfl (ite_rule_duty rfl ?_)
    split
    · rfl
    · unfold rewriteChecked
      split
      case h_2 => exact forScreen_duty s _ _ fun _ => rewritten _ _ _ _ _
      all_goals exact rewritten _ _ _ _ _

theorem scanCompletion_duty (codes : Vector RawCode 16) : (s.scanCompletion codes).duty = s.duty := by
  by_cases run : s.phase = .running
  · rw [scanCompletion_running s codes run]
  · rw [State.scanCompletion, s.whenRunning_idle _ run]

theorem recompute_duty (t : Tide) : (s.recompute t).duty = s.duty := by
  rw [recompute_eq]

theorem loadTideRule_duty (o : WorkingCopy) : (loadTideRule o s).1.duty = s.duty := by
  refine ite_rule_duty rfl (ite_rule_duty rfl ?_)
  split <;> rfl

theorem takeSwap_duty : s.takeSwap.duty = s.duty :=
  ite_duty rfl (takeImmediate_duty s _ fun _ t => ite_rule_duty rfl (recompute_duty t _))

theorem alarmEvent_duty (unit : AlarmUnit) (f : Alarm → AlarmStep) : (s.alarmEvent unit f).duty = s.duty := by
  rw [alarmEvent_eq]
  rfl

theorem setAlarmRule_duty (o : WorkingCopy) : (setAlarmRule o s).1.duty = s.duty := by
  refine forSixteen_duty s _ _ fun i => ?_
  split
  · rfl
  · refine ite_rule_duty rfl ?_
    dsimp only [reply]
    rw [sendActionChangeFrom_eq]

/-! ## The screen and wash units -/

theorem washOrderEnded_duty (x : Screen) (r : OrderResult) : (washOrderEnded x r s).duty = s.duty := by
  unfold washOrderEnded
  split
  · rfl
  · exact State.complete_duty _ _ _ _ _

theorem sendChokeFrom_duty (old : Bool) : (s.sendChokeFrom old).duty = s.duty := ite_duty rfl rfl

theorem request_duty (n : ScreenNo) (c : Cause) : (s.request n c).duty = s.duty := by
  rw [request_eq]
  exact ite_duty rfl (ite_duty rfl (ite_duty rfl rfl))

theorem stallScreen_duty (n : ScreenNo) : (s.stallScreen n).duty = s.duty := by
  rw [stallScreen_eq]
  exact washOrderEnded_duty _ _ _

theorem turn_duty (n : ScreenNo) : (s.turn n).duty = s.duty := by
  have counted : ∀ x : Screen, ((s.setScreen n x).countedEnd n).duty = s.duty := fun x => by
    rw [countedEnd_eq]
    exact (washOrderEnded_duty _ _ _).trans (ite_duty rfl rfl)
  unfold State.turn
  dsimp only
  split
  · rfl
  · exact ite_duty (ite_duty rfl (counted _)) rfl
  all_goals rfl

theorem endRundown_duty (n : ScreenNo) : (s.endRundown n).duty = s.duty := ite_duty rfl rfl

theorem grantTo_duty (n : ScreenNo) : (s.grantTo n).duty = s.duty := ite_duty (stallScreen_duty _ n) rfl

theorem cancelWash_duty (n : ScreenNo) : (s.cancelWash n).duty = s.duty := by
  rw [cancelWash_eq]
  dsimp only
  split
  case h_5 | h_6 => rfl
  all_goals exact washOrderEnded_duty _ _ _

theorem differentialAt_duty (n : ScreenNo) (d : Differential) : (s.differentialAt n d).duty = s.duty := by
  have flagged : ∀ (c : Bool) (x : Screen) (w : Wash),
      (withScreen (if c then withFlag s .screen else s) n x w).duty = s.duty := fun c x w => by cases c <;> rfl
  rw [differentialAt_eq]
  exact ite_duty rfl (ite_duty (flagged ..) (ite_duty (flagged ..) (ite_duty (flagged ..) (flagged ..))))

/-- A screen's field line, in every phase. -/
theorem line_duty (fitted old level : Bool) (store event : State → State) (hs : (store s).duty = s.duty)
    (he : ∀ t, (event t).duty = t.duty) : (s.line fitted old level store event).duty = s.duty := by
  refine ite_duty ?_ rfl
  split
  · rfl
  · rfl
  · exact hs
  · exact ite_duty ((he _).trans hs) hs

theorem washRule_duty (o : WorkingCopy) : (washRule o s).duty = s.duty := by
  have raised : ∀ (t : State) (n : ScreenNo) (k : Nat), (t.raiseTurns n k).duty = t.duty := fun _ _ _ => ite_duty rfl rfl
  unfold washRule
  split
  · exact finish_duty _ _
  · next n _ =>
    split
    · exact finish_duty _ _
    · rw [acceptWash_eq]
      exact (raised _ n _).trans (request_duty _ n .order)

theorem holdScreenRule_duty (o : WorkingCopy) : (holdScreenRule o s).1.duty = s.duty := by
  rw [holdScreenRule_eq]
  refine forScreen_duty s _ _ fun n => ?_
  have held : (outOfService n (s.holdWash n)).duty = s.duty := by
    rw [outOfService_holdWash]
    dsimp only
    split <;> rfl
  exact (sendChokeFrom_duty _ _).trans ((washOrderEnded_duty _ _ _).trans held)

theorem setScreenRule_duty (o : WorkingCopy) : (setScreenRule o s).1.duty = s.duty := by
  refine forScreen_duty s _ _ fun n => ?_
  split
  · rfl
  · exact ite_rule_duty rfl rfl

/-! ## The pump unit -/

theorem pumpEvent_duty (p : PumpNo) (f : Pump → Pump) : (s.pumpEvent p f).duty = s.duty := by
  rw [pumpEvent_eq]
  rfl

/-- An order about a pump that answers with an event of that pump. -/
theorem pumpReply_duty (answers : List Word) (p : PumpNo) (f : Pump → Pump) :
    (reply answers (s.pumpEvent p f)).1.duty = s.duty := pumpEvent_duty s p f

theorem trip_duty (cause : StopCause) (p : PumpNo) : (s.trip cause p).duty = s.duty := by
  rw [trip_eq]
  rfl

theorem start_duty (p : PumpNo) : (s.start p).duty = s.duty := ite_duty (ite_duty (pumpEvent_duty s p _) rfl) rfl

theorem proof_duty (p : PumpNo) : (s.proof p).duty = s.duty := by
  unfold State.proof
  split
  · exact pumpEvent_duty s p _
  all_goals rfl

theorem unproof_duty (p : PumpNo) : (s.unproof p).duty = s.duty := by
  unfold State.unproof
  split <;> rfl

theorem motorFault_duty (p : PumpNo) : (s.motorFault p).duty = s.duty := by
  unfold State.motorFault
  split
  case h_4 => exact pumpEvent_duty s p _
  case h_5 => rfl
  all_goals exact trip_duty s _ p

/-- A pump's field line, in every phase. -/
theorem pumpLine_duty (p : PumpNo) (changes : Bool) (store event : State → State) (hs : (store s).duty = s.duty)
    (he : ∀ t, (event t).duty = t.duty) : (s.pumpLine p changes store event).duty = s.duty := by
  refine ite_duty ?_ rfl
  split
  · rfl
  · rfl
  · exact hs
  · exact (he _).trans hs

theorem restartDelayEnd_duty (p : PumpNo) : (s.restartDelayEnd p).duty = s.duty := by
  refine ite_duty ?_ rfl
  split
  case h_4 => exact pumpEvent_duty s p _
  all_goals rfl

theorem wReport_duty : s.wReport.duty = s.duty := by
  by_cases run : s.phase = .running
  · cases hw : s.wires.wToPump with
    | nil =>
      unfold State.wReport
      rw [s.whenRunning_running _ run, hw]
    | cons w rest => rw [wReport_head run hw]
  · rw [State.wReport, s.whenRunning_idle _ run]

/-! ## Every command of another unit -/

/-- The duty unit's own commands. -/
def isDutyEvent : Instr → Bool
  | .setDemand | .setChoke | .setRoster | .lockDuty | .change | .wReportDuty | .chokeChangeEvent | .actionChangeEvent
  | .pumpChangeReport | .changeCancel | .rotationExpiry => true
  | _ => false

/-- The commands of the time, level, tide and alarm units leave the duty record. -/
theorem exec_upstream_duty (c : Instr) (hr : isReset c = false) (h : isUpstream c = true) :
    ∃ t, exec c s = .next t ∧ t.duty = s.duty := by
  cases c
  case powerApplication | coldStartUpCompletion | supplyLoss | resetNFall | resetNRelease => cases hr
  case crystalConfirmed => exact ⟨_, rfl, crystalConfirmed_duty s⟩
  case crystalFailure => exact ⟨_, rfl, crystalFailure_duty s⟩
  case confirmPeriodRestart => exact ⟨_, rfl, confirmRestart_duty s⟩
  case secondStep => exact ⟨_, rfl, secondStep_duty s⟩
  case setTime | setSea => exact ⟨_, rfl, takeImmediate_duty s _ fun _ _ => ite_rule_duty rfl rfl⟩
  case setTimer => exact ⟨_, rfl, takeImmediate_duty s _ fun o t => setTimerRule_duty t o⟩
  case stopTimer => exact ⟨_, rfl, takeImmediate_duty s _ fun _ t => forSixteen_duty t _ _ fun _ => rfl⟩
  case setChannel =>
    exact ⟨_, rfl, takeImmediate_duty s _ fun _ t => forSixteen_duty t _ _ fun _ => ite_rule_duty rfl rfl⟩
  case loadTide => exact ⟨_, rfl, takeImmediate_duty s _ fun o t => loadTideRule_duty t o⟩
  case swapTide => exact ⟨_, rfl, takeSwap_duty s⟩
  case setAlarm => exact ⟨_, rfl, takeImmediate_duty s _ fun o t => setAlarmRule_duty t o⟩
  case ackAlarm => exact ⟨_, rfl, takeImmediate_duty s _ fun _ _ => rfl⟩
  case scanCompletion codes => exact ⟨_, rfl, scanCompletion_duty s codes⟩
  case unitTick | minuteEventLevel | timeSetEventLevel =>
    refine ⟨_, rfl, whenRunning_duty s ?_⟩
    split <;> rfl
  case timerExpiry =>
    refine ⟨_, rfl, whenRunning_duty s ?_⟩
    split
    · rfl
    · exact stepTimer_duty _ _ _
  case intervalRestart =>
    refine ⟨_, rfl, whenRunning_duty s ?_⟩
    split
    · rfl
    · exact reloadInterval_duty _ _
  case minuteEventTide | timeSetEventTide | suspectChangeEventTide =>
    refine ⟨_, rfl, whenRunning_duty s ?_⟩
    split
    · exact recompute_duty _ _
    · rfl
  case minuteEventAlarm | timeSetEventAlarm | suspectChangeEventAlarm =>
    refine ⟨_, rfl, whenRunning_duty s ?_⟩
    split
    · exact alarmEvent_duty _ _ _
    · rfl
  case editionChangeEvent | seaReport | rateReport =>
    refine ⟨_, rfl, whenRunning_duty s ?_⟩
    split
    · rfl
    · exact alarmEvent_duty _ _ _
  all_goals cases h

/-- The commands of the port, the screens, the wash header and the pumps leave the duty record. -/
theorem exec_downstream_duty (c : Instr) (hd : isDutyEvent c = false) (h : isUpstream c = false) :
    ∃ t, exec c s = .next t ∧ t.duty = s.duty := by
  cases c
  case powerApplication | coldStartUpCompletion | supplyLoss | resetNFall | resetNRelease | crystalConfirmed |
      crystalFailure | confirmPeriodRestart | secondStep | unitTick | timerExpiry | intervalRestart | setTime | setTimer |
      stopTimer | setChannel | setSea | scanCompletion | minuteEventLevel | timeSetEventLevel | loadTide | swapTide |
      minuteEventTide | timeSetEventTide | suspectChangeEventTide | setAlarm | ackAlarm | minuteEventAlarm |
      timeSetEventAlarm | suspectChangeEventAlarm | editionChangeEvent | seaReport | rateReport => cases h
  case setDemand | setChoke | setRoster | lockDuty | change | wReportDuty | chokeChangeEvent | actionChangeEvent |
      pumpChangeReport | changeCancel | rotationExpiry => cases hd
  case arrival | withdrawal | giveBack | cancelRequest | handIllegal | entryWordWrite | bulkWrite =>
    exact ⟨_, rfl, hostWrite_duty s _ _⟩
  case summaryWrite | enableWrite | readOnly => exact ⟨_, rfl, whenRunning_duty s rfl⟩
  case faultWrite => exact ⟨_, rfl, whenRunning_duty s (ite_duty rfl rfl)⟩
  case unknownKind => exact ⟨_, rfl, take_duty s _ fun _ _ => finish_duty _ _⟩
  case describe => exact ⟨_, rfl, takeImmediate_duty s _ fun _ _ => rfl⟩
  case snapshot => exact ⟨_, rfl, takeImmediate_duty s _ fun o t => snapshotRule_duty t o⟩
  case setScreen => exact ⟨_, rfl, takeImmediate_duty s _ fun o t => setScreenRule_duty t o⟩
  case wash => exact ⟨_, rfl, take_duty s _ fun o t => washRule_duty t o⟩
  case holdScreen => exact ⟨_, rfl, takeImmediate_duty s _ fun o t => holdScreenRule_duty t o⟩
  case releaseScreen => exact ⟨_, rfl, takeImmediate_duty s _ fun _ t => forScreen_duty t _ _ fun _ => rfl⟩
  case resetScreen =>
    exact ⟨_, rfl, takeImmediate_duty s _ fun _ t => forScreen_duty t _ _ fun _ => ite_rule_duty rfl rfl⟩
  case setWash => exact ⟨_, rfl, takeImmediate_duty s _ fun _ _ => ite_rule_duty rfl (ite_rule_duty rfl rfl)⟩
  case setPump =>
    exact ⟨_, rfl, takeImmediate_duty s _ fun _ t =>
      forPump_duty t _ _ fun p => ite_rule_duty (pumpReply_duty t _ p _) rfl⟩
  case holdPump | releasePump =>
    exact ⟨_, rfl, takeImmediate_duty s _ fun _ t => forPump_duty t _ _ fun p => pumpReply_duty t _ p _⟩
  case resetPump =>
    exact ⟨_, rfl, takeImmediate_duty s _ fun _ t =>
      forPump_duty t _ _ fun p => ite_rule_duty rfl (pumpReply_duty t _ p _)⟩
  case turnEdge n level => exact ⟨_, rfl, line_duty s _ _ _ _ _ rfl fun t => turn_duty t n⟩
  case overloadEvent n level =>
    exact ⟨_, rfl, line_duty s _ _ _ _ _ rfl fun t => ite_duty (stallScreen_duty t n) rfl⟩
  case proofEdge p => exact ⟨_, rfl, pumpLine_duty s p _ _ _ rfl fun t => proof_duty t p⟩
  case proofDrop p => exact ⟨_, rfl, pumpLine_duty s p _ _ _ rfl fun t => unproof_duty t p⟩
  case motorFaultEvent p => exact ⟨_, rfl, pumpLine_duty s p _ _ _ rfl fun t => motorFault_duty t p⟩
  case motorFaultClear p => exact ⟨_, rfl, pumpLine_duty s p _ _ _ rfl fun t => pumpEvent_duty t p _⟩
  case restartDelayEnd p => exact ⟨_, rfl, restartDelayEnd_duty s p⟩
  case wReport => exact ⟨_, rfl, wReport_duty s⟩
  all_goals refine ⟨_, rfl, whenRunning_duty s ?_⟩
  case turnWatchExpiry n => exact ite_duty (stallScreen_duty s n) rfl
  case rundownExpiry n => exact ite_duty (endRundown_duty s n) rfl
  case proveWatchExpiry p | lossWatchExpiry p => exact ite_duty (trip_duty s _ p) rfl
  case stoppingClockExpiry p => exact ite_duty (pumpEvent_duty s p _) rfl
  case grant =>
    refine ite_duty ?_ rfl
    split
    · rfl
    · exact grantTo_duty _ _
  case startRequest =>
    split
    · exact start_duty _ _
    · rfl
  case stopRequest =>
    split
    · exact pumpEvent_duty _ _ _
    · rfl
  case differentialReport =>
    split
    · rfl
    · exact (sendChokeFrom_duty _ _).trans
        (foldl_duty _ _ (fun t (m : ScreenNo × Differential) => differentialAt_duty t m.1 m.2) _)
  case hReport =>
    split
    · rfl
    · exact ite_duty rfl rfl
  case runningPumpReport => split <;> rfl
  case washRequest =>
    split
    · rfl
    · exact ite_duty (request_duty _ _ _) rfl
  case washCancel =>
    split
    · rfl
    · exact ite_duty (cancelWash_duty _ _) rfl

/-- Every command of another unit leaves the duty record. -/
theorem exec_duty (c : Instr) (hr : isReset c = false) (hd : isDutyEvent c = false) :
    ∃ t, exec c s = .next t ∧ t.duty = s.duty := by
  cases h : isUpstream c with
  | true => exact exec_upstream_duty s c hr h
  | false => exact exec_downstream_duty s c hd h

end Sys2Proof
end

/-!
# The roster at every step

The duty unit's events one by one: what each makes of the rosters and the move, before steps 3 to 5 of R177 compute the limit.
Every other command leaves the duty record; power and the hold leave no roster saved.
-/

section
namespace Sys2Proof

open Sys2Proof.Machine

section events
variable {s : State}

/-- An event that leaves the duty record and the number of fitted pumps. -/
theorem RosterInv.of_duty {t : State} (h : RosterInv s) (hf : t.fittedPumps = s.fittedPumps) (hd : t.duty = s.duty) :
    RosterInv t := (KeepsRoster.of_duty hf hd).inv h

/-! ## Events that reach the duty unit (R175, R177, R190, R191) -/

theorem whenRunning_rosterInv {f : State → State} (h : RosterInv s) (hf : RosterInv (f s)) : RosterInv (s.whenRunning f) := by
  unfold State.whenRunning
  split
  · exact hf
  all_goals exact h

/-- A change of the terms of the limit or of the view, settled as an event. -/
theorem RosterInv.settled (h : RosterInv s) {d : Duty} (before : Duty) (roster : d.roster = s.duty.roster)
    (saved : d.savedRoster = s.duty.savedRoster) (move : d.move = s.duty.move) :
    RosterInv ((s.setDuty d).dutyEvent before) := by
  refine dutyEvent_rosterInv before ⟨?_, fun r hr => h.held.saved r (saved.symm.trans hr), ?_⟩
  · rw [State.setDuty_duty, roster]
    exact h.held.roster
  · rw [State.setDuty_duty, saved, move]
    exact h.held.ordered

/-- A new roster while no CHANGE of origin ORDER is in flight, settled as an event. -/
theorem RosterInv.newRoster (h : RosterInv s) (before : Duty) (still : s.duty.move.inFlight = false) {r : List PumpNo}
    (hr : IsRoster s r) : RosterInv ((s.setDuty { s.duty with roster := r }).dutyEvent before) :=
  have unordered := isOrdered_of_idle still
  dutyEvent_rosterInv before (.of_roster hr (h.held.saved_none unordered) unordered)

theorem moveRules_keepsRoster (r : PumpReport) (mark : Bool) (s : State) : KeepsRoster s (s.moveRules r mark) := by
  unfold State.moveRules
  split
  · exact .refl s
  · next p hm =>
    split
    · exact setMove_keepsRoster s .none (congrArg Move.isOrdered hm) rfl
    · exact .refl s
  · split
    · unfold State.incomingReport
      split
      · exact changeDone_keepsRoster s _ _
      · split
        · exact (setFlag_keepsRoster s _).trans (abandonChange_keepsRoster _ _ _ _ _ rfl)
        · exact .refl s
    · split
      · exact (setFlag_keepsRoster s _).trans (abandonChange_keepsRoster _ _ _ _ _ rfl)
      · exact .refl s

theorem hearReport_rosterInv (r : PumpReport) (h : RosterInv s) : RosterInv (s.hearReport r) := by
  have heard : KeepsRoster s (s.setDuty (s.duty.hear r)) := .of_same rfl rfl rfl rfl rfl
  exact dutyEvent_rosterInv s.duty ((heard.trans (moveRules_keepsRoster r _ _)).held h.held)

theorem cancelChange_rosterInv (h : RosterInv s) : RosterInv s.cancelChange := by
  unfold State.cancelChange
  split
  · exact dutyEvent_rosterInv s.duty
      (((askStop_keepsRoster s _).trans (abandonChange_keepsRoster _ _ _ _ _ rfl)).held h.held)
  · exact h
  · exact h

theorem rotate_rosterInv (h : RosterInv s) : RosterInv s.rotate := by
  unfold State.rotate
  dsimp only
  split
  · exact h
  · split
    · exact (KeepsRoster.of_same rfl rfl rfl rfl rfl : KeepsRoster s _).inv h
    · next still => exact h.newRoster _ (Bool.eq_false_of_not_eq_true still) (h.held.roster.of_perm (rotated_perm _))

/-! ## Orders (R189, R192 to R195) -/

/-- A completion leaves the rosters. -/
theorem finish_rosterInv (o : WorkingCopy) {r : Reply} (h : RosterInv r.1) : RosterInv (finish o r) :=
  h.of_duty (State.complete_fittedPumps _ _ _ _ _) (State.complete_duty _ _ _ _ _)

/-- A take of the duty unit, on the words of the entry that it takes. -/
theorem take_rosterInv {kind : Option OrderKind} {body : WorkingCopy → State → State} (h : RosterInv s)
    (hb : ∀ e rest, RosterInv (takenState s e rest) → RosterInv (body (s.copyEntry e) (takenState s e rest))) :
    RosterInv (s.take kind body) := by
  rcases s.take_cases kind body with same | ⟨e, rest, -, -, -, taken⟩
  · rwa [same]
  · rw [taken]
    exact hb e rest h

theorem takeImmediate_rosterInv {kind : OrderKind} {rule : WorkingCopy → State → Reply} (h : RosterInv s)
    (hr : ∀ e rest, RosterInv (takenState s e rest) → RosterInv (rule (s.copyEntry e) (takenState s e rest)).1) :
    RosterInv (s.takeImmediate kind rule) :=
  take_rosterInv h fun e rest taken => finish_rosterInv _ (hr e rest taken)

theorem setDemandRule_rosterInv (o : WorkingCopy) (h : RosterInv s) : RosterInv (setDemandRule o s).1 := by
  unfold setDemandRule
  split
  · exact h
  · split
    · exact h
    · exact h.settled _ rfl rfl rfl

theorem setChokeRule_rosterInv (o : WorkingCopy) (h : RosterInv s) : RosterInv (setChokeRule o s).1 := by
  unfold setChokeRule
  split
  · exact h
  · split
    · exact h
    · exact h.settled _ rfl rfl rfl

/-- A list of as many distinct fitted pumps as are fitted is an ordering of them (R172). -/
theorem isRoster_of_length {ps : List PumpNo} (once : ps.Nodup) (fitted : ∀ p ∈ ps, s.pumpFitted p = true)
    (length : ps.length = min s.fittedPumps 13) : IsRoster s ps := by
  have all : (indices s.pumpFitted).length ≤ ps.length := by
    have bound : (indices s.pumpFitted).length ≤ min s.fittedPumps 6 := by
      have numbers : (indices s.pumpFitted).map (fun p => p.1) ⊆ List.range (min s.fittedPumps 6) := by
        intro k hk
        obtain ⟨p, hp, rfl⟩ := List.mem_map.mp hk
        have below : p.1 < s.fittedPumps := of_decide_eq_true ((mem_indices _ p).mp hp)
        exact List.mem_range.mpr (lt_min below p.isLt)
      have distinct := (List.nodup_map_iff Fin.val_injective).mpr (indices_nodup s.pumpFitted)
      simpa using (distinct.subperm numbers).length_le
    omega
  have same : ps.Perm (indices s.pumpFitted) :=
    (once.subperm fun p hp => (mem_indices _ p).mpr (fitted p hp)).perm_of_length_le all
  exact ⟨once, fun p => same.mem_iff.trans (mem_indices _ p)⟩

theorem copyEntry_args_length (s : State) (e : Entry) : (s.copyEntry e).args.length = 13 := by
  simp [State.copyEntry, State.words]

/-- The pumps that SET_ROSTER accepts are an ordering of the fitted ones (R194). -/
theorem setRosterRule_rosterInv (o : WorkingCopy) (ho : o.args.length = 13) (h : RosterInv s) :
    RosterInv (setRosterRule o s).1 := by
  unfold setRosterRule
  split
  · exact h
  · split
    · exact h
    · next still =>
      split
      · exact h
      · next ps named =>
        split
        · exact h
        · next fitted =>
          split
          · exact h
          · next once =>
            refine h.newRoster _ (Bool.eq_false_of_not_eq_true still) (isRoster_of_length (not_not.mp once) ?_ ?_)
            · simpa using fitted
            · have numbers := congrArg List.length ((pumpsOfWords_iff _ ps).mp named)
              simpa [ho] using numbers

/-- The two pumps of a CHANGE are fitted (R189). -/
theorem changeArgs_ok {o : WorkingCopy} {a b : PumpNo} (h : changeArgs o s = .ok (a, b)) :
    s.pumpFitted a = true ∧ s.pumpFitted b = true := by
  unfold changeArgs at h
  split at h
  · split at h
    · next fitted =>
      cases h
      exact Bool.and_eq_true_iff.mp fitted
    · cases h
  all_goals cases h

/-- An accepted CHANGE saves the roster and exchanges two of its places (R189). -/
theorem acceptChange_rosterInv (o : WorkingCopy) {a b : PumpNo} (h : RosterInv s) (ha : s.pumpFitted a = true)
    (hb : s.pumpFitted b = true) : RosterInv (s.acceptChange o a b) := by
  obtain ⟨once, fitted⟩ := h.held.roster
  refine dutyEvent_rosterInv s.duty ⟨?_, fun r hr => ?_, rfl⟩
  · exact h.held.roster.of_perm (exchanged_perm a b s.duty.roster once ((fitted a).mpr ha) ((fitted b).mpr hb))
  · cases hr
    exact h.held.roster

theorem changeRule_rosterInv (o : WorkingCopy) (h : RosterInv s) : RosterInv (changeRule o s) := by
  unfold changeRule
  split
  · exact finish_rosterInv o h
  · next a b args =>
    split
    · exact finish_rosterInv o h
    · obtain ⟨ha, hb⟩ := changeArgs_ok args
      exact acceptChange_rosterInv o h ha hb

/-! ## Power and RESET_N (R20 to R23, R196, R197) -/

/-- The natural order is a roster (R196). -/
theorem naturalRoster_isRoster {t : State} {k : Nat} (h : t.fittedPumps = k) : IsRoster t (naturalRoster k) := by
  subst h
  exact ⟨indices_nodup _, fun p => mem_indices _ p⟩

theorem powerOn_rosterInv (a b : BitVec 3) (s : State) : RosterInv (s.powerOn a b) :=
  (rosterInv_iff _).mpr ⟨.of_roster (naturalRoster_isRoster rfl) rfl rfl, rfl⟩

/-- The hold restores the roster of a CHANGE in flight and leaves no demand (R197). -/
theorem hold_rosterInv (h : RosterHeld s) : RosterInv s.hold := by
  refine (rosterInv_iff _).mpr ⟨.of_roster ?_ rfl rfl, by simp [runningLimit, State.hold, Duty.fall, Duty.cold]⟩
  have restored := ((restoredWith_keepsRoster s .none rfl).held h).roster
  show IsRoster s s.duty.restored.roster
  rw [← restored_eq]
  exact restored

theorem startUp_rosterInv (h : RosterInv s) : RosterInv s.startUp := by
  have begun : RosterInv s.delaysBegin := h.of_duty rfl rfl
  unfold State.startUp
  split
  · split
    · exact hold_rosterInv begun.held
    · exact begun.of_duty rfl rfl
  all_goals exact h

theorem resetFall_rosterInv (h : RosterInv s) : RosterInv s.resetFall := by
  have low : RosterInv { s with resetLow := true } := h.of_duty rfl rfl
  unfold State.resetFall
  split
  case h_3 => exact hold_rosterInv low.held
  case h_4 => exact h
  all_goals exact low

/-- The sweep drops the reference to the change order and leaves the rosters (R23). -/
theorem resetRelease_rosterInv (h : RosterInv s) : RosterInv s.resetRelease := by
  by_cases hp : s.phase = .held
  · have swept : KeepsRoster s (unitsReleased (sweptPart s)) := by
      have kept : KeepsRoster s (sweptPart s) := by
        rw [sweptPart_frame]
        exact .of_same rfl rfl rfl rfl rfl
      exact kept.trans (.of_duty rfl rfl)
    rw [resetRelease_held s hp]
    exact dutyEvent_rosterInv _ (swept.held h.held)
  · rw [resetRelease_idle s hp]
    exact h.of_duty rfl rfl

end events

/-! ## Every command -/

/-- Power and RESET_N keep the roster in order. -/
theorem reset_keepsRosterInv (c : Instr) (s : State) (hc : isReset c = true) (h : RosterInv s) :
    ∃ t, exec c s = .next t ∧ RosterInv t := by
  cases c
  case powerApplication a b => exact ⟨_, rfl, powerOn_rosterInv a b s⟩
  case coldStartUpCompletion => exact ⟨_, rfl, startUp_rosterInv h⟩
  case supplyLoss => exact ⟨_, rfl, h.of_duty rfl rfl⟩
  case resetNFall => exact ⟨_, rfl, resetFall_rosterInv h⟩
  case resetNRelease => exact ⟨_, rfl, resetRelease_rosterInv h⟩
  all_goals cases hc

/-- The duty unit's own commands keep the roster in order. -/
theorem dutyEvents_keepRosterInv (c : Instr) (s : State) (hc : isDutyEvent c = true) (h : RosterInv s) :
    ∃ t, exec c s = .next t ∧ RosterInv t := by
  have delivered : ∀ w : Wires, RosterInv { s with wires := w } := fun _ => h
  cases c
  case setDemand => exact ⟨_, rfl, takeImmediate_rosterInv h fun _ _ => setDemandRule_rosterInv _⟩
  case setChoke => exact ⟨_, rfl, takeImmediate_rosterInv h fun _ _ => setChokeRule_rosterInv _⟩
  case setRoster =>
    exact ⟨_, rfl, takeImmediate_rosterInv h fun e _ => setRosterRule_rosterInv _ (copyEntry_args_length s e)⟩
  case lockDuty => exact ⟨_, rfl, takeImmediate_rosterInv h fun _ _ taken => taken⟩
  case change => exact ⟨_, rfl, take_rosterInv h fun _ _ => changeRule_rosterInv _⟩
  case wReportDuty =>
    refine ⟨_, rfl, whenRunning_rosterInv h ?_⟩
    split <;> exact h
  case chokeChangeEvent | actionChangeEvent =>
    refine ⟨_, rfl, whenRunning_rosterInv h ?_⟩
    split
    · exact h
    · exact (delivered _).settled _ rfl rfl rfl
  case pumpChangeReport =>
    refine ⟨_, rfl, whenRunning_rosterInv h ?_⟩
    split
    · exact h
    · exact hearReport_rosterInv _ (delivered _)
  case changeCancel =>
    refine ⟨_, rfl, whenRunning_rosterInv h ?_⟩
    split
    · exact h
    · dsimp only
      split
      · exact cancelChange_rosterInv (delivered _)
      · exact delivered _
  case rotationExpiry =>
    refine ⟨_, rfl, whenRunning_rosterInv h ?_⟩
    split
    · exact h
    · exact rotate_rosterInv (delivered _)
  all_goals cases hc

/-- Every command keeps the roster in order. -/
theorem exec_keepsRosterInv (c : Instr) (s : State) (h : RosterInv s) : ∃ t, exec c s = .next t ∧ RosterInv t := by
  cases hr : isReset c with
  | true => exact reset_keepsRosterInv c s hr h
  | false =>
    cases hd : isDutyEvent c with
    | true => exact dutyEvents_keepRosterInv c s hd h
    | false =>
      obtain ⟨t, exec, same⟩ := exec_duty s c hr hd
      obtain ⟨u, exec', passes⟩ := exec_passes c s hr
      cases exec.symm.trans exec'
      exact ⟨t, exec, h.of_duty passes.frame.fittedPumps same⟩

end Sys2Proof

open Sys2Proof Sys2Proof.Machine

/-- Settles O10: a source cycle and the commands of the other units leave the duty record; each event of the duty unit leaves
the rosters in order and computes the limit. -/
theorem rosterInvKept : Obligations.RosterInvKept := by
  intro s t h hs
  unfold step at hs
  split at hs
  · cases hs
    have same : s.sourceCycle.duty = s.duty := by
      unfold State.sourceCycle
      split <;> rfl
    exact h.of_duty (sourceCycle_quiet s).fittedPumps same
  · next c rest _ =>
    obtain ⟨u, exec, inv⟩ := exec_keepsRosterInv c { s with pending := rest } h
    cases exec.symm.trans hs
    exact inv

end

/-!
# A step by its queue

What a step is with a command at the front and on an empty queue (log 1, log 6), and what a source cycle is without and with
supply.
-/

section
namespace Sys2Proof

open Sys2Proof.Machine

/-! ## The queue (log 1) -/

theorem step_of_front {s : State} {c : Instr} {rest : List Instr} (h : s.pending = c :: rest) :
    step s = exec c { s with pending := rest } := by
  unfold step
  rw [h]

theorem step_of_empty {s : State} (h : s.pending = []) : step s = .next s.sourceCycle := by
  unfold step
  rw [h]

/-! ## A source cycle (02 section 2.1, log 6) -/

theorem sourceCycle_of_unpowered {s : State} (h : s.phase = .unpowered) : s.sourceCycle = s := by
  unfold State.sourceCycle
  rw [h]

/-- The three phases with supply count alike. -/
theorem sourceCycle_of_powered {s : State} (h : s.phase ≠ .unpowered) :
    s.sourceCycle = { s with time := s.time.cycle } := by
  unfold State.sourceCycle
  split
  case h_1 unpowered => exact absurd unpowered h
  case h_2 | h_3 | h_4 => rfl

end Sys2Proof

open Sys2Proof Sys2Proof.Machine

/-- Settles O1: the queue's head is the command, and putting its rest back restores the state. -/
theorem stepTakesFront : Obligations.StepTakesFront :=
  fun _ _ => step_of_front rfl

/-- Settles O3: a step on an empty queue is a source cycle, by whether the supply is there. -/
theorem emptyQueueCountsOneSourceCycle : Obligations.EmptyQueueCountsOneSourceCycle := by
  intro s empty
  rw [step_of_empty empty]
  constructor
  · intro unpowered
    rw [sourceCycle_of_unpowered unpowered]
  · intro powered
    rw [sourceCycle_of_powered powered, TimeUnit.cycle]

end
